-- ==== Sys2Proof/Word.lean ====
section
/-! DEFINITION. The word types of the CLUT engine (spec/00_scope.md R6, R8; spec/20_memory.md R48). -/
namespace Sys2Proof

/-- An alpha byte, and one byte of the raster image. -/
abbrev Byte := BitVec 8

/-- One Palette Store entry (10_state.md R22). -/
abbrev Half := BitVec 16

/-- One expansion-buffer entry, and one 32-bit raster element (10_state.md R23). -/
abbrev Word := BitVec 32

/-- One dual-pixel entry (10_state.md R24), and one packed operand word (30_encoding.md R61 to R64). -/
abbrev DWord := BitVec 64

/-- A raster block number, 14 bits (00_scope.md R6, BLOCK_BITS). -/
abbrev BlockNum := BitVec 14

end Sys2Proof
end

