-- ==== Sys2Proof/Syntax.lean ====
section
/-! DEFINITION. The commands of the CLUT engine and their operand bundles (spec/30_encoding.md R60 to R70). -/
namespace Sys2Proof

/-- The storage mode CSM (30_encoding.md R65): 0 is DIRECT, 1 is GATHER. -/
inductive StorageMode where
  | direct
  | gather
  deriving DecidableEq, Repr

/-- The texture-configuration bundle T (30_encoding.md R61). -/
structure TexCfg where
  /-- index format -/
  psm  : BitVec 6
  /-- source base block -/
  cbp  : BlockNum
  /-- palette storage depth code -/
  cpsm : BitVec 4
  /-- storage mode -/
  csm  : StorageMode
  /-- storage offset, in units of 16 entries -/
  csa  : BitVec 5
  /-- load-control code -/
  cld  : BitVec 3
  deriving DecidableEq, Repr

/-- The CLUT-gather bundle C (30_encoding.md R62). -/
structure GatherCfg where
  /-- buffer width passed to the resolver -/
  cbw : BitVec 6
  /-- horizontal gather coordinate, in units of 16 elements -/
  cou : BitVec 6
  /-- vertical gather coordinate -/
  cov : BitVec 10
  deriving DecidableEq, Repr

/-- The alpha-expansion bundle A (30_encoding.md R63). -/
structure AlphaCfg where
  /-- first alpha byte, selected by a 0 top bit -/
  ta0 : Byte
  /-- alpha-exclusion flag -/
  aem : Bool
  /-- second alpha byte, selected by a 1 top bit -/
  ta1 : Byte
  deriving DecidableEq, Repr

/-- One constructor per row of the opcode map (30_encoding.md R70). -/
inductive Instr where
  /-- OP 1, WRITE_TEST (40_write_tracker.md R80) -/
  | writeTest (t : TexCfg) (c : GatherCfg)
  /-- OP 2, WRITE (41_write_codecs.md R100) -/
  | write (t : TexCfg) (c : GatherCfg)
  /-- OP 3, LOAD (41_write_codecs.md R104) -/
  | load (t : TexCfg) (c : GatherCfg)
  /-- OP 4, READ (42_read_expand.md R130) -/
  | read (t : TexCfg) (a : AlphaCfg)
  /-- OP 5, ALPHA_MINMAX (43_alpha_range.md R160) -/
  | alphaMinMax
  /-- OP 6, INVALIDATE (40_write_tracker.md R82) -/
  | invalidate
  /-- OP 7, INVALIDATE_BLOCK (40_write_tracker.md R84) -/
  | invalidateBlock (block : BlockNum)
  /-- OP 8, INVALIDATE_RANGE (40_write_tracker.md R85); `first` is START, `last` is END -/
  | invalidateRange (first last : BlockNum)
  deriving DecidableEq, Repr

/-- What the host puts on the command port: the 4-bit command word and the four operand words
(30_encoding.md R60, R64). A command ignores the words its row of R70 does not name. -/
structure CommandWords where
  op : BitVec 4
  t  : DWord
  c  : DWord
  a  : DWord
  b  : DWord
  deriving DecidableEq, Repr

end Sys2Proof
end

