-- ==== Sys2Proof/Config.lean ====
section
/-! DEFINITION. The implementation parameters a model takes as arguments (spec/00_scope.md R6), as plain data. -/
namespace Sys2Proof

/-- Bits per pixel of a pixel format: the five values 00_scope.md R6 allows. -/
inductive Bpp where
  | b4
  | b8
  | b16
  | b24
  | b32
  deriving DecidableEq, Repr

/-- One entry of the format descriptor table FMT: bits per pixel and palette size (00_scope.md R6).
`pal` is a plain number, so that a table R7 refuses can be written down. -/
structure FmtEntry where
  bpp : Bpp
  pal : Nat
  deriving DecidableEq, Repr

/-- The palette storage depths of the DEPTH decode (30_encoding.md R67). -/
inductive Depth where
  | d32
  | d24
  | d16
  | d16s
  | other
  deriving DecidableEq, Repr

/-- GATHER_CMP_MODE: the storage mode whose write dirty test compares the gather bundle (decision D12). -/
inductive GatherCmpMode where
  | direct
  | gather
  deriving DecidableEq, Repr

/-- T32_I8_WRITE_MODE: placement of 32-bit 8-bit-index direct loads (decision D18). -/
inductive T32I8WriteMode where
  | absolute
  | relative
  deriving DecidableEq, Repr

/-- GATHER32_BASE: base entry of 32-bit gather loads (decision D22). -/
inductive Gather32Base where
  | mod16
  | zero
  deriving DecidableEq, Repr

/-- The parameters of 00_scope.md R6 that are fixed for a run (70_reset_and_hazards.md R192).
The state carries them as data, so a claim about every state is a claim for every value. -/
structure Config where
  /-- FMT, indexed by the 6-bit format code -/
  fmt : Vector FmtEntry 64
  /-- DEPTH, indexed by the 4-bit CPSM code -/
  depth : Vector Depth 16
  gatherCmp : GatherCmpMode
  t32I8Write : T32I8WriteMode
  gather32Base : Gather32Base
  /-- READ16S_ALPHA_CMP -/
  read16sAlphaCmp : Bool
  deriving DecidableEq, Repr

end Sys2Proof
end

