-- ==== Sys2Proof/WellFormed.lean ====
section
/-! DEFINITION. Well-formedness of a configuration (spec/00_scope.md R7), of a command word
(spec/30_encoding.md R71) and of a command (R72). -/
namespace Sys2Proof

/-- 00_scope.md R7 for one format: pal is 0, 16 or 256, and it is not 0 only where bpp is 4, 8 or 32. -/
def FmtEntry.wellFormed (e : FmtEntry) : Bool :=
  (e.pal == 0 || e.pal == 16 || e.pal == 256) &&
  (e.pal == 0 || e.bpp == .b4 || e.bpp == .b8 || e.bpp == .b32)

/-- 00_scope.md R7: every entry of FMT is well formed. -/
def Config.wellFormed (c : Config) : Bool :=
  c.fmt.toList.all FmtEntry.wellFormed

/-- 30_encoding.md R71: OP 0x0 and 0x9 to 0xF spell no command. The operand words are never ill formed (R72). -/
def CommandWords.wellFormed (w : CommandWords) : Bool :=
  1 ≤ w.op.toNat && w.op.toNat ≤ 8

/-- 30_encoding.md R72: operand field values are never illegal, so every command is well formed. The
widths of the bundle fields already exclude what R73 calls unreachable. -/
def Instr.wellFormed : Instr → Bool
  | .writeTest _ _ => true
  | .write _ _ => true
  | .load _ _ => true
  | .read _ _ => true
  | .alphaMinMax => true
  | .invalidate => true
  | .invalidateBlock _ => true
  | .invalidateRange _ _ => true

end Sys2Proof
end

