-- ==== Sys2Proof/Decode.lean ====
section
/-! DEFINITION. Decoding and encoding of commands (spec/30_encoding.md R60 to R64, R70, R71). -/
namespace Sys2Proof

/-- Why a command word is not decoded. -/
inductive DecodeError where
  /-- 30_encoding.md R71: OP is 0x0 or 0x9 to 0xF -/
  | reservedOp (op : BitVec 4)
  deriving DecidableEq, Repr

/-- 30_encoding.md R65: CSM 0 is DIRECT, 1 is GATHER. -/
def StorageMode.ofBit (b : BitVec 1) : StorageMode :=
  if b = 1 then .gather else .direct

/-- The CSM bit of a storage mode (30_encoding.md R65). -/
def StorageMode.toBit : StorageMode → BitVec 1
  | .direct => 0
  | .gather => 1

/-- The flag an AEM bit spells (30_encoding.md R63). -/
def aemFlag (b : BitVec 1) : Bool :=
  b == 1

/-- The AEM bit of a flag (30_encoding.md R63). -/
def aemBit (b : Bool) : BitVec 1 :=
  if b then 1 else 0

/-- The packed T word (30_encoding.md R61): PSM 25:20, CBP 50:37, CPSM 54:51, CSM 55, CSA 60:56, CLD 63:61. -/
def decodeT (w : DWord) : TexCfg where
  psm  := w.extractLsb' 20 6
  cbp  := w.extractLsb' 37 14
  cpsm := w.extractLsb' 51 4
  csm  := StorageMode.ofBit (w.extractLsb' 55 1)
  csa  := w.extractLsb' 56 5
  cld  := w.extractLsb' 61 3

/-- The packed C word (30_encoding.md R62): CBW 5:0, COU 11:6, COV 21:12. -/
def decodeC (w : DWord) : GatherCfg where
  cbw := w.extractLsb' 0 6
  cou := w.extractLsb' 6 6
  cov := w.extractLsb' 12 10

/-- The packed A word (30_encoding.md R63): TA0 7:0, AEM 15, TA1 39:32. -/
def decodeA (w : DWord) : AlphaCfg where
  ta0 := w.extractLsb' 0 8
  aem := aemFlag (w.extractLsb' 15 1)
  ta1 := w.extractLsb' 32 8

/-- BLOCK, and START, of the packed B word: bits 13:0 (30_encoding.md R64). -/
def decodeBlock (w : DWord) : BlockNum :=
  w.extractLsb' 0 14

/-- END of the packed B word: bits 29:16 (30_encoding.md R64). -/
def decodeLast (w : DWord) : BlockNum :=
  w.extractLsb' 16 14

/-- The opcode map (30_encoding.md R70); every other OP is reserved (R71). -/
def decode (w : CommandWords) : Except DecodeError Instr :=
  match w.op.toNat with
  | 1 => .ok (.writeTest (decodeT w.t) (decodeC w.c))
  | 2 => .ok (.write (decodeT w.t) (decodeC w.c))
  | 3 => .ok (.load (decodeT w.t) (decodeC w.c))
  | 4 => .ok (.read (decodeT w.t) (decodeA w.a))
  | 5 => .ok .alphaMinMax
  | 6 => .ok .invalidate
  | 7 => .ok (.invalidateBlock (decodeBlock w.b))
  | 8 => .ok (.invalidateRange (decodeBlock w.b) (decodeLast w.b))
  | _ => .error (.reservedOp w.op)

/-- A field put into a packed word with its bit 0 at bit `lo`. -/
def place {n : Nat} (v : BitVec n) (lo : Nat) : DWord :=
  v.setWidth 64 <<< lo

/-- The packed T word of a bundle, ignored bits zero (30_encoding.md R61). -/
def encodeT (t : TexCfg) : DWord :=
  place t.psm 20 ||| place t.cbp 37 ||| place t.cpsm 51 ||| place t.csm.toBit 55 ||| place t.csa 56
    ||| place t.cld 61

/-- The packed C word of a bundle, ignored bits zero (30_encoding.md R62). -/
def encodeC (c : GatherCfg) : DWord :=
  place c.cbw 0 ||| place c.cou 6 ||| place c.cov 12

/-- The packed A word of a bundle, ignored bits zero (30_encoding.md R63). -/
def encodeA (a : AlphaCfg) : DWord :=
  place a.ta0 0 ||| place (aemBit a.aem) 15 ||| place a.ta1 32

/-- The packed B word of one block (30_encoding.md R64). -/
def encodeBlock (block : BlockNum) : DWord :=
  place block 0

/-- The packed B word of a range (30_encoding.md R64). -/
def encodeRange (first last : BlockNum) : DWord :=
  place first 0 ||| place last 16

/-- The words of a command; a word the command does not read is zero (30_encoding.md R70, R74). -/
def encode : Instr → CommandWords
  | .writeTest t c => { op := 1, t := encodeT t, c := encodeC c, a := 0, b := 0 }
  | .write t c => { op := 2, t := encodeT t, c := encodeC c, a := 0, b := 0 }
  | .load t c => { op := 3, t := encodeT t, c := encodeC c, a := 0, b := 0 }
  | .read t a => { op := 4, t := encodeT t, c := 0, a := encodeA a, b := 0 }
  | .alphaMinMax => { op := 5, t := 0, c := 0, a := 0, b := 0 }
  | .invalidate => { op := 6, t := 0, c := 0, a := 0, b := 0 }
  | .invalidateBlock block => { op := 7, t := 0, c := 0, a := 0, b := encodeBlock block }
  | .invalidateRange first last => { op := 8, t := 0, c := 0, a := 0, b := encodeRange first last }

/-- A command laid out as one number (log 11, DESIGN CHOICE): OP in bits 3:0, then, counted on from bit 4,
the 64-bit operand words the command reads, in the order T, C, A, B. Bits from `nbits` up are zero. -/
def tableWords (nbits w : Nat) : CommandWords :=
  let v := w % 2 ^ nbits
  let op := BitVec.ofNat 4 v
  let word0 := BitVec.ofNat 64 (v / 2 ^ 4)
  let word1 := BitVec.ofNat 64 (v / 2 ^ 68)
  match op.toNat with
  | 1 | 2 | 3 => { op := op, t := word0, c := word1, a := 0, b := 0 }
  | 4 => { op := op, t := word0, c := 0, a := word1, b := 0 }
  | 7 | 8 => { op := op, t := 0, c := 0, a := 0, b := word0 }
  | _ => { op := op, t := 0, c := 0, a := 0, b := 0 }

/-- The command the decoder reads from a row of spec/opcode_table.json whose bits are `w`. -/
def decodeTableWord (nbits w : Nat) : Option Instr :=
  match decode (tableWords nbits w) with
  | .ok i => some i
  | .error _ => none

end Sys2Proof
end

