-- ==== Sys2Proof/Machine/Defaults.lean ====
section
/-! DEFINITION. The default parameter tables (spec/00_scope.md R6; spec/30_encoding.md R66, R67) and the
deswizzle permutations (spec/41_write_codecs.md R105, R106). The spec marks their values as general
knowledge (93_implementation_defined.md K7, K8, K10); they stand here as named tables, to be replaced by
a reader who has the real ones (log 14, UNVERIFIED). -/
namespace Sys2Proof.Machine

/-- One row of the default FMT table (30_encoding.md R66). -/
def defaultFmtEntry (code : Nat) : FmtEntry :=
  match code with
  | 0x00 => { bpp := .b32, pal := 0 }
  | 0x01 => { bpp := .b32, pal := 0 }
  | 0x02 => { bpp := .b16, pal := 0 }
  | 0x0A => { bpp := .b16, pal := 0 }
  | 0x13 => { bpp := .b8, pal := 256 }
  | 0x14 => { bpp := .b4, pal := 16 }
  | 0x1B => { bpp := .b32, pal := 256 }
  | 0x24 => { bpp := .b32, pal := 16 }
  | 0x2C => { bpp := .b32, pal := 16 }
  | 0x30 => { bpp := .b32, pal := 0 }
  | 0x31 => { bpp := .b32, pal := 0 }
  | 0x32 => { bpp := .b16, pal := 0 }
  | 0x3A => { bpp := .b16, pal := 0 }
  | _ => { bpp := .b32, pal := 0 }

/-- One row of the default DEPTH decode (30_encoding.md R67). -/
def defaultDepth (code : Nat) : Depth :=
  match code with
  | 0x0 => .d32
  | 0x1 => .d24
  | 0x2 => .d16
  | 0xA => .d16s
  | _ => .other

/-- The default parameters (00_scope.md R6). -/
def defaultConfig : Config where
  fmt := Vector.ofFn fun c => defaultFmtEntry c.val
  depth := Vector.ofFn fun c => defaultDepth c.val
  gatherCmp := .direct
  t32I8Write := .absolute
  gather32Base := .mod16
  read16sAlphaCmp := true

/-- T32I8[0..127] (41_write_codecs.md R105). -/
def t32I8 : List Nat :=
  [  0,   1,   4,   5,   8,   9,  12,  13,   2,   3,   6,   7,  10,  11,  14,  15,
    64,  65,  68,  69,  72,  73,  76,  77,  66,  67,  70,  71,  74,  75,  78,  79] ++
  [ 16,  17,  20,  21,  24,  25,  28,  29,  18,  19,  22,  23,  26,  27,  30,  31,
    80,  81,  84,  85,  88,  89,  92,  93,  82,  83,  86,  87,  90,  91,  94,  95] ++
  [ 32,  33,  36,  37,  40,  41,  44,  45,  34,  35,  38,  39,  42,  43,  46,  47,
    96,  97, 100, 101, 104, 105, 108, 109,  98,  99, 102, 103, 106, 107, 110, 111] ++
  [ 48,  49,  52,  53,  56,  57,  60,  61,  50,  51,  54,  55,  58,  59,  62,  63,
   112, 113, 116, 117, 120, 121, 124, 125, 114, 115, 118, 119, 122, 123, 126, 127]

/-- T16I8[0..31] (41_write_codecs.md R106). -/
def t16I8 : List Nat :=
  [0, 2, 8, 10, 16, 18, 24, 26, 4, 6, 12, 14, 20, 22, 28, 30,
   1, 3, 9, 11, 17, 19, 25, 27, 5, 7, 13, 15, 21, 23, 29, 31]

/-- S32(e) = (e & 0x80) | T32I8[e & 0x7F], for e in 0..255 (41_write_codecs.md R105). -/
def s32 (e : Nat) : Nat :=
  (e &&& 0x80) ||| t32I8.getD (e &&& 0x7F) 0

/-- S16(e) = (e & 0xE0) | T16I8[e & 0x1F], for e in 0..255 (41_write_codecs.md R106). -/
def s16 (e : Nat) : Nat :=
  (e &&& 0xE0) ||| t16I8.getD (e &&& 0x1F) 0

end Sys2Proof.Machine
end

