-- ==== Sys2Proof/Machine/State.lean ====
section
/-! DEFINITION. The state of the CLUT engine (spec/10_state.md, spec/70_reset_and_hazards.md R191, R199),
the model's inputs and outputs of a step, the fault and refusal reasons (spec/60_exceptions.md R172, R175),
and reset. -/
namespace Sys2Proof.Machine

/-- Sparse memory of bytes: strictly rising addresses, no entry equal to what an unlisted address reads as
(`Memory.wf`, Machine/Ops.lean). -/
abbrev Memory := List Host.Cell

/-- The resolver as a table from packed coordinates to element indices, in the same sparse form. -/
abbrev ResolverTable := List (Nat × Nat)

/-- The five read-only element spaces of the raster-memory port (20_memory.md R44, R45). -/
inductive RasterSpace where
  /-- the elements of BlkRead32 -/
  | view32
  /-- the elements of BlkRead16 -/
  | view16
  /-- the elements of BlkRead16S -/
  | view16S
  /-- the elements of MemRead(a, 4) -/
  | linear32
  /-- the elements of MemRead(a, 2) -/
  | linear16
  deriving DecidableEq, Repr

/-- The raster image: the input of every WRITE and LOAD step (20_memory.md R44, R45; decision D6). Each
element space is its own bytes, so that any total view functions can be written down (log 2). -/
structure Raster where
  view32   : Memory
  view16   : Memory
  view16S  : Memory
  linear32 : Memory
  linear16 : Memory
  resolver : ResolverTable
  deriving DecidableEq, Repr

/-- What the outside of the block does between two commands, or as the next command (log 1, 2, 10). -/
inductive HostEvent where
  /-- the host issues a command (00_scope.md R2) -/
  | command (w : CommandWords)
  /-- a second agent issues a command: out of contract (60_exceptions.md R180) -/
  | foreignCommand (w : CommandWords)
  /-- another pipeline stage changes one byte of the raster image (20_memory.md R53) -/
  | rasterByte (space : RasterSpace) (address : Nat) (value : Byte)
  /-- the collaborator's resolver changes at one set of coordinates (20_memory.md R45) -/
  | resolverEntry (key : Nat) (element : Nat)
  deriving DecidableEq, Repr

/-- The status WRITE returns (41_write_codecs.md R100, R102). -/
inductive WriteStatus where
  | ok
  | unsupported
  deriving DecidableEq, Repr

/-- A warning event (60_exceptions.md R177). -/
inductive Warning where
  /-- Warn(UNSUPPORTED_WRITE, csm, cpsm, psm), emitted by the NULL routine (41_write_codecs.md R102) -/
  | unsupportedWrite (csm : StorageMode) (cpsm : BitVec 4) (psm : BitVec 6)
  deriving DecidableEq, Repr

/-- The result value of a command, per its rule. -/
inductive ResultValue where
  /-- INVALIDATE, INVALIDATE_BLOCK and INVALIDATE_RANGE return nothing (40_write_tracker.md R82, R84, R85) -/
  | nothing
  /-- WRITE_TEST: "reload should proceed" (40_write_tracker.md R80) -/
  | reload (t : Bool)
  /-- WRITE (41_write_codecs.md R100) -/
  | status (s : WriteStatus)
  /-- LOAD: the WRITE_TEST bit, and the WRITE status when it ran (41_write_codecs.md R104) -/
  | load (t : Bool) (s : Option WriteStatus)
  /-- READ: copies of both buffers, and 1 on a miss (42_read_expand.md R130) -/
  | palette (buf32 : Vector Word 256) (buf64 : Vector DWord 256) (recomputed : Bool)
  /-- ALPHA_MINMAX: the (min, max) alpha pair (43_alpha_range.md R160) -/
  | alphaRange (amin amax : Byte)
  deriving DecidableEq, Repr

/-- A command's result: its value and the warnings it emitted (60_exceptions.md R177). -/
structure CmdResult where
  value    : ResultValue
  warnings : List Warning
  deriving DecidableEq, Repr

/-- The reset contents the spec leaves open (70_reset_and_hazards.md R191; decision D5). -/
structure Init where
  /-- INIT_CLUT -/
  clut    : Vector Half 512
  /-- INIT_BUF32 -/
  buf32   : Vector Word 256
  /-- INIT_BUF64 -/
  buf64   : Vector DWord 256
  /-- INIT_WSNAP, the texture bundle -/
  wTex    : TexCfg
  /-- INIT_WSNAP, the gather bundle -/
  wGather : GatherCfg
  /-- INIT_LC[0] -/
  lc0     : BlockNum
  /-- INIT_LC[1] -/
  lc1     : BlockNum
  /-- INIT_RSNAP, the texture bundle -/
  rTex    : TexCfg
  /-- INIT_RSNAP, the alpha bundle -/
  rAlpha  : AlphaCfg
  /-- INIT_AMIN -/
  rAmin   : Byte
  /-- INIT_AMAX -/
  rAmax   : Byte
  deriving DecidableEq, Repr

/-- The state (10_state.md section 2 to 5), with the model's inputs and outputs at the end. -/
structure State where
  /-- CLUT, the Palette Store (10_state.md R22) -/
  clut        : Vector Half 512
  /-- BUF32, the expansion buffer (10_state.md R23) -/
  buf32       : Vector Word 256
  /-- BUF64, the dual-pixel buffer (10_state.md R24) -/
  buf64       : Vector DWord 256
  /-- W.T (10_state.md R25) -/
  wTex        : TexCfg
  /-- W.C (10_state.md R25) -/
  wGather     : GatherCfg
  /-- W.dirty (10_state.md R26) -/
  wDirty      : Bool
  /-- LC[0] (10_state.md R27) -/
  lc0         : BlockNum
  /-- LC[1] (10_state.md R27) -/
  lc1         : BlockNum
  /-- R.T (10_state.md R28) -/
  rTex        : TexCfg
  /-- R.A (10_state.md R28) -/
  rAlpha      : AlphaCfg
  /-- R.dirty (10_state.md R29) -/
  rDirty      : Bool
  /-- R.adirty (10_state.md R30) -/
  rAlphaDirty : Bool
  /-- R.amin (10_state.md R31) -/
  rAmin       : Byte
  /-- R.amax (10_state.md R31) -/
  rAmax       : Byte
  /-- run mark `faulted` (10_state.md R32) -/
  faulted     : Bool
  /-- run mark `refused` (10_state.md R32) -/
  refused     : Bool
  /-- the host command index n (70_reset_and_hazards.md R199) -/
  cmdIndex    : Nat
  /-- the parameters, fixed for a run (00_scope.md R6; log 6) -/
  config      : Config
  /-- the raster image, an input of the step (20_memory.md R44; log 2) -/
  raster      : Raster
  /-- what the host does next, first first (log 1) -/
  pending     : List HostEvent
  /-- the last completed command's result (00_scope.md R10; log 7) -/
  result      : Option CmdResult
  deriving DecidableEq, Repr

/-- The fault reasons, a closed list (60_exceptions.md R172). Both are safe: the hardware returns some pair. -/
inductive Fault where
  /-- F_ALPHA_PRECOND: raised by ALPHA_MINMAX while R.dirty = 1. Safe (log 15). -/
  | alphaPrecond
  /-- F_ALPHA_PAL: raised by ALPHA_MINMAX when the read snapshot selects no expansion path. Safe (log 15). -/
  | alphaPal
  deriving DecidableEq, Repr

/-- The refusal reasons (60_exceptions.md R175, R180), and the model's own. All are safe: the run stops. -/
inductive Refusal where
  /-- An instruction whose meaning is not written: raised by no arm of this model. Safe. -/
  | notModelled (mnemonic : String)
  /-- REF_RESERVED_OP: raised by the step for OP 0x0 or 0x9 to 0xF. Safe. -/
  | reservedOp (op : BitVec 4)
  /-- REF_BAD_CONFIG: raised by the step for an ill-formed FMT (00_scope.md R7). Safe. -/
  | badConfig
  /-- Raised by the step for a command of a second agent (60_exceptions.md R180). Safe (log 10). -/
  | secondAgent
  /-- Raised by the step once a run mark is set: the run has ended (60_exceptions.md R171, R176). Safe (log 8). -/
  | runEnded
  deriving DecidableEq, Repr

/-- The outcome of a command or a step (00_scope.md R10). -/
abbrev Outcome := Host.Outcome State Fault Refusal

/-- All-zero bundles, for the reset values the spec leaves open (log 5). -/
def zeroTex : TexCfg := { psm := 0, cbp := 0, cpsm := 0, csm := .direct, csa := 0, cld := 0 }

/-- See `zeroTex`. -/
def zeroGather : GatherCfg := { cbw := 0, cou := 0, cov := 0 }

/-- See `zeroTex`. -/
def zeroAlpha : AlphaCfg := { ta0 := 0, aem := false, ta1 := 0 }

/-- The open reset contents all zero (log 5, DESIGN CHOICE). -/
def Init.zero : Init where
  clut    := Vector.replicate 512 0
  buf32   := Vector.replicate 256 0
  buf64   := Vector.replicate 256 0
  wTex    := zeroTex
  wGather := zeroGather
  lc0     := 0
  lc1     := 0
  rTex    := zeroTex
  rAlpha  := zeroAlpha
  rAmin   := 0
  rAmax   := 0

/-- The raster image with nothing listed (log 4). -/
def Raster.empty : Raster :=
  { view32 := [], view16 := [], view16S := [], linear32 := [], linear16 := [], resolver := [] }

/-- The state after reset (70_reset_and_hazards.md R191), for every choice of the parameters, of the open
reset contents, of the raster image and of what the host will do. -/
def State.resetWith (config : Config) (init : Init) (raster : Raster) (pending : List HostEvent) : State where
  clut        := init.clut
  buf32       := init.buf32
  buf64       := init.buf64
  wTex        := init.wTex
  wGather     := init.wGather
  wDirty      := true
  lc0         := init.lc0
  lc1         := init.lc1
  rTex        := init.rTex
  rAlpha      := init.rAlpha
  rDirty      := true
  rAlphaDirty := true
  rAmin       := init.rAmin
  rAmax       := init.rAmax
  faulted     := false
  refused     := false
  cmdIndex    := 0
  config      := config
  raster      := raster
  pending     := pending
  result      := none

/-- Reset with the default parameters (00_scope.md R6), the open contents zero (log 5), nothing listed in the
raster image (log 4) and a host that issues nothing (log 1). -/
def State.reset : State :=
  State.resetWith defaultConfig Init.zero Raster.empty []

end Sys2Proof.Machine
end

