-- ==== Sys2Proof/Machine/Ops.lean ====
section
/-! DEFINITION. The named operations over the raster image, the Palette Store, the expansion buffers and the
state (spec/20_memory.md, spec/41_write_codecs.md R110, spec/42_read_expand.md R133, spec/60_exceptions.md
R171, R175). Commands reach the state through these. -/
namespace Sys2Proof.Machine

/-- What a sparse list holds at an address: the first entry there, else what an unlisted address reads as. -/
def Sparse.read {α : Type} (unlisted : α) : List (Nat × α) → Nat → α
  | [], _ => unlisted
  | (k, x) :: rest, a => if k = a then x else Sparse.read unlisted rest a

/-- Writing keeps the list sorted and drops an entry equal to what an unlisted address reads as. -/
def Sparse.write {α : Type} [DecidableEq α] (unlisted : α) : List (Nat × α) → Nat → α → List (Nat × α)
  | [], a, v => if v = unlisted then [] else [(a, v)]
  | (k, x) :: rest, a, v =>
    if a < k then (if v = unlisted then (k, x) :: rest else (a, v) :: (k, x) :: rest)
    else if a = k then (if v = unlisted then rest else (a, v) :: rest)
    else (k, x) :: Sparse.write unlisted rest a v

/-- The canonical form: addresses strictly rising, no entry equal to what an unlisted address reads as. -/
abbrev Sparse.wf {α : Type} [DecidableEq α] (unlisted : α) (m : List (Nat × α)) : Prop :=
  (m.map Prod.fst).Pairwise (· < ·) ∧ ∀ cell ∈ m, cell.2 ≠ unlisted

/-- What an unlisted byte of the raster image reads as (log 4, DESIGN CHOICE). -/
def Memory.unlisted : Byte := 0

/-- One byte of a raster element space. -/
def Memory.read (m : Memory) (address : Nat) : Byte :=
  Sparse.read Memory.unlisted m address

/-- One byte of a raster element space changed. -/
def Memory.write (m : Memory) (address : Nat) (value : Byte) : Memory :=
  Sparse.write Memory.unlisted m address value

/-- The canonical form of a raster element space. -/
abbrev Memory.wf (m : Memory) : Prop :=
  Sparse.wf Memory.unlisted m

/-- The 32-bit element `i` of a space: bytes 4i .. 4i+3, little-endian (20_memory.md R47; log 3). -/
def Memory.element32 (m : Memory) (i : Nat) : Word :=
  Memory.read m (4 * i + 3) ++ Memory.read m (4 * i + 2) ++ Memory.read m (4 * i + 1) ++ Memory.read m (4 * i)

/-- The 16-bit element `i` of a space: bytes 2i and 2i+1, little-endian (20_memory.md R47; log 3). -/
def Memory.element16 (m : Memory) (i : Nat) : Half :=
  Memory.read m (2 * i + 1) ++ Memory.read m (2 * i)

/-- The bytes of one element space. -/
def Raster.space (r : Raster) : RasterSpace → Memory
  | .view32 => r.view32
  | .view16 => r.view16
  | .view16S => r.view16S
  | .linear32 => r.linear32
  | .linear16 => r.linear16

/-- The raster image with one element space replaced. -/
def Raster.setSpace (r : Raster) (space : RasterSpace) (m : Memory) : Raster :=
  match space with
  | .view32 => { r with view32 := m }
  | .view16 => { r with view16 := m }
  | .view16S => { r with view16S := m }
  | .linear32 => { r with linear32 := m }
  | .linear16 => { r with linear16 := m }

/-- The model's read of one byte of the raster image. -/
def Raster.readByte (r : Raster) (space : RasterSpace) (address : Nat) : Byte :=
  Memory.read (r.space space) address

/-- One byte of the raster image changed by another pipeline stage (20_memory.md R53). -/
def Raster.writeByte (r : Raster) (space : RasterSpace) (address : Nat) (value : Byte) : Raster :=
  r.setSpace space (Memory.write (r.space space) address value)

/-- What the resolver table answers for coordinates it does not list (log 4, DESIGN CHOICE). -/
def resolverUnlisted : Nat := 0

/-- The resolver at one packed coordinate. -/
def Raster.readResolver (r : Raster) (key : Nat) : Nat :=
  Sparse.read resolverUnlisted r.resolver key

/-- The resolver changed at one packed coordinate (log 2). -/
def Raster.writeResolver (r : Raster) (key element : Nat) : Raster :=
  { r with resolver := Sparse.write resolverUnlisted r.resolver key element }

/-- Every part of the raster image has its canonical form. -/
abbrev Raster.wf (r : Raster) : Prop :=
  Memory.wf r.view32 ∧ Memory.wf r.view16 ∧ Memory.wf r.view16S ∧ Memory.wf r.linear32 ∧ Memory.wf r.linear16 ∧
    Sparse.wf resolverUnlisted r.resolver

/-- The element index of element `k`, k in 0..255, of the view beginning at block `b` in its element space
(log 16). -/
def viewIndex (b : BlockNum) (k : Nat) : Nat :=
  256 * b.toNat + k

/-- BlkRead32(b, k) (20_memory.md R44). -/
def Raster.blkRead32 (r : Raster) (b : BlockNum) (k : Nat) : Word :=
  Memory.element32 r.view32 (viewIndex b k)

/-- BlkRead16(b, k) (20_memory.md R44). -/
def Raster.blkRead16 (r : Raster) (b : BlockNum) (k : Nat) : Half :=
  Memory.element16 r.view16 (viewIndex b k)

/-- BlkRead16S(b, k) (20_memory.md R44). -/
def Raster.blkRead16S (r : Raster) (b : BlockNum) (k : Nat) : Half :=
  Memory.element16 r.view16S (viewIndex b k)

/-- The key of the resolver's arguments: v in bits 9:0, u in bits 20:10, the format in bits 24:21, the width in
bits 30:25 and the base from bit 31. u never reaches 2048 (41_write_codecs.md R112), so keys do not collide. -/
def resolveKey (b : BlockNum) (width : BitVec 6) (format : BitVec 4) (u : Nat) (v : BitVec 10) : Nat :=
  (((b.toNat * 64 + width.toNat) * 16 + format.toNat) * 2048 + u) * 1024 + v.toNat

/-- Resolve(b, w, psm, u, v) (20_memory.md R45). -/
def Raster.resolve (r : Raster) (b : BlockNum) (width : BitVec 6) (format : BitVec 4) (u : Nat) (v : BitVec 10) : Nat :=
  r.readResolver (resolveKey b width format u v)

/-- MemRead(a, 4) (20_memory.md R45). -/
def Raster.memRead32 (r : Raster) (a : Nat) : Word :=
  Memory.element32 r.linear32 a

/-- MemRead(a, 2) (20_memory.md R45). -/
def Raster.memRead16 (r : Raster) (a : Nat) : Half :=
  Memory.element16 r.linear16 a

/-- lo16(x) (00_scope.md R9). -/
def lo16 (x : Word) : Half :=
  x.extractLsb' 0 16

/-- hi16(x) (00_scope.md R9). -/
def hi16 (x : Word) : Half :=
  x.extractLsb' 16 16

/-- CLUT[e]: the index is taken mod 512 (20_memory.md R41). -/
def clutAt (clut : Vector Half 512) (e : Nat) : Half :=
  clut[e % 512]'(Nat.mod_lt e (by decide))

/-- CLUT[e] <- v: the index is taken mod 512 (20_memory.md R41). -/
def storeHalf (clut : Vector Half 512) (e : Nat) (v : Half) : Vector Half 512 :=
  clut.set (e % 512) v (Nat.mod_lt e (by decide))

/-- STORE32(e, x): the low half-word at e, then the high half-word at e + 256 (41_write_codecs.md R110). -/
def store32 (clut : Vector Half 512) (e : Nat) (x : Word) : Vector Half 512 :=
  storeHalf (storeHalf clut e (lo16 x)) (e + 256) (hi16 x)

/-- The loop "for k in 0 .. n-1: CLUT[base + k] <- f k", entry by entry: entry e is entry d of the run, d its
distance from base mod 512. No entry is named twice for n up to 512 (41_write_codecs.md R115), so this is
the loop (`fillClut_eq_loop`, Laws/Clut.lean; log 13). -/
def fillClut (clut : Vector Half 512) (base n : Nat) (f : Nat → Half) : Vector Half 512 :=
  Vector.ofFn fun e : Fin 512 =>
    let d := (e.val + (512 - base % 512)) % 512
    if d < n then f d else clut[e]

/-- The loop "for k in 0 .. n-1: STORE32(base + k, f k)", for n up to 256: the low half-words from base, the high
half-words from base + 256 (41_write_codecs.md R110, R115; `fillClut32_eq_loop`, Laws/Clut.lean; log 13). -/
def fillClut32 (clut : Vector Half 512) (base n : Nat) (f : Nat → Word) : Vector Half 512 :=
  fillClut (fillClut clut base n fun k => lo16 (f k)) (base + 256) n fun k => hi16 (f k)

/-- PAIR32(e): the 32-bit colour at Palette Store position e (42_read_expand.md R133). -/
def pair32 (clut : Vector Half 512) (e : Nat) : Word :=
  (clutAt clut e).setWidth 32 ||| (clutAt clut (e + 256)).setWidth 32 <<< 16

/-- The loop "for k in 0 .. n-1: BUF32[k] <- f k"; entries from n on keep their values (10_state.md R23). -/
def rewriteBuf32 (buf : Vector Word 256) (n : Nat) (f : Nat → Word) : Vector Word 256 :=
  Vector.ofFn fun k : Fin 256 => if k.val < n then f k.val else buf[k]

/-- BUF32[k], k in 0..255; the index is taken mod 256 only to be total (20_memory.md R42). -/
def buf32At (buf : Vector Word 256) (k : Nat) : Word :=
  buf[k % 256]'(Nat.mod_lt k (by decide))

/-- BUF64[k], k in 0..255; the index is taken mod 256 only to be total (20_memory.md R42). -/
def buf64At (buf : Vector DWord 256) (k : Nat) : DWord :=
  buf[k % 256]'(Nat.mod_lt k (by decide))

/-- REPLICATE64() (42_read_expand.md R145): the low nibble of k selects bits 31:0, the high nibble bits 63:32. -/
def replicate64 (buf : Vector Word 256) : Vector DWord 256 :=
  Vector.ofFn fun k : Fin 256 =>
    (buf32At buf (k.val &&& 15)).setWidth 64 ||| (buf32At buf (k.val >>> 4)).setWidth 64 <<< 32

/-- The two load-control slots (10_state.md R27). -/
inductive LcSlot where
  | slot0
  | slot1
  deriving DecidableEq, Repr

/-- LC[slot] (10_state.md R27). -/
def State.readLc (s : State) : LcSlot → BlockNum
  | .slot0 => s.lc0
  | .slot1 => s.lc1

/-- LC[slot] <- v (10_state.md R27). -/
def State.writeLc (s : State) (slot : LcSlot) (v : BlockNum) : State :=
  match slot with
  | .slot0 => { s with lc0 := v }
  | .slot1 => { s with lc1 := v }

/-- The Write Snapshot takes the operands (40_write_tracker.md R81). -/
def State.refreshWrite (s : State) (t : TexCfg) (c : GatherCfg) : State :=
  { s with wTex := t, wGather := c }

/-- What WRITE does before its routine (41_write_codecs.md R100). -/
def State.commitWrite (s : State) (t : TexCfg) (c : GatherCfg) : State :=
  { s with wTex := t, wGather := c, wDirty := false, rDirty := true }

/-- The Palette Store replaced. -/
def State.setClut (s : State) (clut : Vector Half 512) : State :=
  { s with clut := clut }

/-- W.dirty <- 1 (40_write_tracker.md R82). -/
def State.markWriteDirty (s : State) : State :=
  { s with wDirty := true }

/-- The Read Snapshot takes the operands (42_read_expand.md R131). -/
def State.refreshRead (s : State) (t : TexCfg) (a : AlphaCfg) : State :=
  { s with rTex := t, rAlpha := a }

/-- What a READ miss does before its path (42_read_expand.md R130). -/
def State.beginExpand (s : State) (t : TexCfg) (a : AlphaCfg) : State :=
  { s with rTex := t, rAlpha := a, rDirty := false, rAlphaDirty := true }

/-- The expansion buffers replaced. -/
def State.setBuffers (s : State) (buf32 : Vector Word 256) (buf64 : Vector DWord 256) : State :=
  { s with buf32 := buf32, buf64 := buf64 }

/-- The alpha memo filled by a scan (43_alpha_range.md R160). -/
def State.setMemo (s : State) (amin amax : Byte) : State :=
  { s with rAmin := amin, rAmax := amax, rAlphaDirty := false }

/-- The end of a command that ends in a next state: its result, and the command index advanced by one
(00_scope.md R10; 70_reset_and_hazards.md R199). -/
def State.complete (s : State) (value : ResultValue) (warnings : List Warning) : State :=
  { s with result := some { value := value, warnings := warnings }, cmdIndex := s.cmdIndex + 1 }

/-- raise Fault(reason) (60_exceptions.md R171): no state element changes, so the outcome carries only the
reason; the run mark is set by `State.afterOutcome`. -/
def raise (reason : Fault) : Outcome :=
  .fault reason

/-- refuse(reason) (60_exceptions.md R175). -/
def refuse (reason : Refusal) : Outcome :=
  .refused reason

/-- The state a run is left in by an outcome, run marks included (60_exceptions.md R171, R175; log 8). -/
def State.afterOutcome (s : State) (o : Outcome) : State :=
  match o with
  | .next t => t
  | .fault _ => { s with faulted := true }
  | .refused _ => { s with refused := true }

/-- A run mark is set: the run has ended (10_state.md R32; 60_exceptions.md R171; log 8). -/
def State.runOver (s : State) : Bool :=
  s.faulted || s.refused

/-- The host issues one more command, ahead of what it had planned (log 1). -/
def State.issue (s : State) (w : CommandWords) : State :=
  { s with pending := .command w :: s.pending }

/-- The queue after its first event was taken. -/
def State.takeEvent (s : State) (rest : List HostEvent) : State :=
  { s with pending := rest }

/-- The raster image replaced, between commands (20_memory.md R53). -/
def State.setRaster (s : State) (r : Raster) : State :=
  { s with raster := r }

end Sys2Proof.Machine
end

