-- ==== Sys2Proof/Machine/Operands.lean ====
section
/-! DEFINITION. What the operand fields select: formats, depths, index widths, load-control rules, footprint,
codec and expansion path (spec/30_encoding.md R65 to R69; spec/40_write_tracker.md R80, R83;
spec/41_write_codecs.md R101, R103, R112; spec/42_read_expand.md R132). -/
namespace Sys2Proof.Machine

/-- FMT(c) (30_encoding.md R66). -/
def fmtOf (cfg : Config) (psm : BitVec 6) : FmtEntry :=
  cfg.fmt[psm.toNat]'psm.isLt

/-- DEPTH(CPSM) (30_encoding.md R67). -/
def depthOf (cfg : Config) (cpsm : BitVec 4) : Depth :=
  cfg.depth[cpsm.toNat]'cpsm.isLt

/-- The index width of a format (30_encoding.md R68). -/
inductive IndexWidth where
  | i8
  | i4
  | none
  deriving DecidableEq, Repr

/-- I8 when pal is 256, I4 when pal is 16, NONE otherwise; a well-formed FMT leaves only 0 for otherwise
(30_encoding.md R68; 00_scope.md R7; log 12). -/
def indexWidth (cfg : Config) (psm : BitVec 6) : IndexWidth :=
  if (fmtOf cfg psm).pal = 256 then .i8
  else if (fmtOf cfg psm).pal = 16 then .i4
  else .none

/-- What a load-control code asks for (40_write_tracker.md R80, step 2). -/
inductive LoadRule where
  | never
  | always
  | record (slot : LcSlot)
  | ifDiffers (slot : LcSlot)
  deriving DecidableEq, Repr

/-- The load-control codes 0 to 7 (40_write_tracker.md R80; 30_encoding.md R73). -/
def loadRule (cld : BitVec 3) : LoadRule :=
  if cld = 1 then .always
  else if cld = 2 then .record .slot0
  else if cld = 3 then .record .slot1
  else if cld = 4 then .ifDiffers .slot0
  else if cld = 5 then .ifDiffers .slot1
  else .never   -- 0, 6 and 7

/-- The first Palette Store entry a storage offset selects (30_encoding.md R69). -/
def csaBase (csa : BitVec 5) : Nat :=
  16 * csa.toNat

/-- The horizontal coordinate of gather element i (41_write_codecs.md R112). -/
def gatherU (c : GatherCfg) (i : Nat) : Nat :=
  16 * c.cou.toNat + i

/-- The address of gather element i (41_write_codecs.md R112). -/
def gatherAddress (r : Raster) (t : TexCfg) (c : GatherCfg) (i : Nat) : Nat :=
  r.resolve t.cbp c.cbw t.cpsm (gatherU c i) c.cov

/-- "16-bit depth" in a rule: D16 or D16S (30_encoding.md R67). -/
def Depth.is16 : Depth → Bool
  | .d16 => true
  | .d16s => true
  | .d32 => false
  | .d24 => false
  | .other => false

/-- FOOTPRINT(X), in blocks (40_write_tracker.md R83). -/
def footprint (cfg : Config) (x : TexCfg) : Nat :=
  let baseline := 4
  let byDepth := if Depth.is16 (depthOf cfg x.cpsm) then baseline >>> 1 else baseline
  if (fmtOf cfg x.psm).bpp = .b4 then byDepth >>> 1 else byDepth

/-- VIEW16(depth), element k of the 16-bit view a direct routine reads (41_write_codecs.md R103). -/
def view16 (r : Raster) (depth : Depth) (b : BlockNum) (k : Nat) : Half :=
  if depth = .d16s then r.blkRead16S b k else r.blkRead16 b k

/-- The conversion routines (41_write_codecs.md R101). -/
inductive WriteRoutine where
  | d32I8
  | d32I4
  | d16I8
  | d16I4
  /-- G32 with n entries -/
  | g32 (n : Nat)
  /-- G16 with n entries -/
  | g16 (n : Nat)
  | null
  deriving DecidableEq, Repr

/-- DISPATCH(csm, depth, iw) (41_write_codecs.md R101). -/
def dispatchWrite : StorageMode → Depth → IndexWidth → WriteRoutine
  | .direct, .d32, .i8 => .d32I8
  | .direct, .d24, .i8 => .d32I8
  | .direct, .d32, .i4 => .d32I4
  | .direct, .d24, .i4 => .d32I4
  | .direct, .d16, .i8 => .d16I8
  | .direct, .d16s, .i8 => .d16I8
  | .direct, .d16, .i4 => .d16I4
  | .direct, .d16s, .i4 => .d16I4
  | .gather, .d32, .i8 => .g32 256
  | .gather, .d24, .i8 => .g32 256
  | .gather, .d32, .i4 => .g32 16
  | .gather, .d24, .i4 => .g32 16
  | .gather, .d16, .i8 => .g16 256
  | .gather, .d16s, .i8 => .g16 256
  | .gather, .d16, .i4 => .g16 16
  | .gather, .d16s, .i4 => .g16 16
  | _, .other, _ => .null
  | _, _, .none => .null

/-- The expansion paths (42_read_expand.md R132). -/
inductive ExpandPath where
  | e32I8
  | e32I4
  | e16I8
  | e16I4
  | none
  deriving DecidableEq, Repr

/-- PATH(depth, iw) (42_read_expand.md R132). -/
def expandPath : Depth → IndexWidth → ExpandPath
  | .d32, .i8 => .e32I8
  | .d24, .i8 => .e32I8
  | .d32, .i4 => .e32I4
  | .d24, .i4 => .e32I4
  | .d16, .i8 => .e16I8
  | .d16s, .i8 => .e16I8
  | .d16, .i4 => .e16I4
  | .d16s, .i4 => .e16I4
  | .other, _ => .none
  | _, .none => .none

/-- The routine a WRITE with these operands runs (41_write_codecs.md R100). -/
def writeRoutine (cfg : Config) (t : TexCfg) : WriteRoutine :=
  dispatchWrite t.csm (depthOf cfg t.cpsm) (indexWidth cfg t.psm)

/-- The path a texture bundle selects (42_read_expand.md R130; 43_alpha_range.md R160). -/
def readPath (cfg : Config) (t : TexCfg) : ExpandPath :=
  expandPath (depthOf cfg t.cpsm) (indexWidth cfg t.psm)

end Sys2Proof.Machine
end

