-- ==== Sys2Proof/Machine/Flags.lean ====
section
/-! DEFINITION. The dirty flags: the write dirty test (spec/40_write_tracker.md R81), the group and range tests
of the invalidation commands (R84, R85) and the read dirty test (spec/42_read_expand.md R131). -/
namespace Sys2Proof.Machine

/-- CMP_CSM: the storage mode whose gather bundle is compared (40_write_tracker.md R81; decision D12). -/
def cmpCsm (cfg : Config) : StorageMode :=
  match cfg.gatherCmp with
  | .direct => .direct
  | .gather => .gather

/-- The texture fields both dirty tests compare: CSA, CSM, CPSM, CBP and FMT.bpp, but never CLD
(40_write_tracker.md R81, 42_read_expand.md R131). -/
def texDiffers (cfg : Config) (t u : TexCfg) : Bool :=
  t.csa != u.csa || t.csm != u.csm || t.cpsm != u.cpsm || t.cbp != u.cbp ||
    (fmtOf cfg t.psm).bpp != (fmtOf cfg u.psm).bpp

/-- The value d of WDIRTY(T, C) (40_write_tracker.md R81). -/
def writeDirty (s : State) (t : TexCfg) (c : GatherCfg) : Bool :=
  s.wDirty || texDiffers s.config t s.wTex || (t.csm == cmpCsm s.config && c != s.wGather)

/-- WDIRTY's absorb-then-report: a clean test still stores the operands (40_write_tracker.md R81). -/
def writeDirtyTest (s : State) (t : TexCfg) (c : GatherCfg) : Bool × State :=
  if writeDirty s t c then (true, s) else (false, s.refreshWrite t c)

/-- The alpha fields RDIRTY compares for a depth: TA0 and AEM for D24; TA0, TA1 and AEM for D16, and for D16S
when READ16S_ALPHA_CMP; none for D32 and OTHER (42_read_expand.md R131). -/
def alphaDiffers (cfg : Config) (depth : Depth) (a b : AlphaCfg) : Bool :=
  match depth with
  | .d32 => false
  | .d24 => a.aem != b.aem || a.ta0 != b.ta0
  | .d16 => a.ta0 != b.ta0 || a.ta1 != b.ta1 || a.aem != b.aem
  | .d16s => cfg.read16sAlphaCmp && (a.ta0 != b.ta0 || a.ta1 != b.ta1 || a.aem != b.aem)
  | .other => false

/-- The value d of RDIRTY(T, A) (42_read_expand.md R131). -/
def readDirty (s : State) (t : TexCfg) (a : AlphaCfg) : Bool :=
  s.rDirty || texDiffers s.config t s.rTex || alphaDiffers s.config (depthOf s.config t.cpsm) a s.rAlpha

/-- INVALIDATE_BLOCK's test: the block lies in the 32-block group of the snapshot's base (40_write_tracker.md R84). -/
def sameGroup (block base : BlockNum) : Bool :=
  block >>> 5 == base >>> 5

/-- INVALIDATE_RANGE's test on unbounded integers: [base, base+f) meets [first, last] (40_write_tracker.md R85). -/
def rangeMeets (first last base : BlockNum) (f : Nat) : Bool :=
  first.toNat ≤ last.toNat && base.toNat ≤ last.toNat && first.toNat < base.toNat + f

end Sys2Proof.Machine
end

