-- ==== Sys2Proof/Machine/AlphaRange.lean ====
section
/-! DEFINITION. The ALPHA_MINMAX command (spec/43_alpha_range.md R160 to R162). -/
namespace Sys2Proof.Machine

/-- The alpha byte of an expanded entry, bits 31:24 (43_alpha_range.md R162). -/
def alphaByte (x : Word) : Byte :=
  x.extractLsb' 24 8

/-- Unsigned minimum of two bytes (00_scope.md R8). -/
def byteMin (a b : Byte) : Byte :=
  if b.toNat < a.toNat then b else a

/-- Unsigned maximum of two bytes (00_scope.md R8). -/
def byteMax (a b : Byte) : Byte :=
  if a.toNat < b.toNat then b else a

/-- One turn of SCAN's loop (43_alpha_range.md R162). -/
def scanStep (range : Byte × Byte) (x : Word) : Byte × Byte :=
  (byteMin range.1 (alphaByte x), byteMax range.2 (alphaByte x))

/-- SCAN(n): the (min, max) alpha of the first n entries (43_alpha_range.md R162). -/
def scanAlpha (buf : Vector Word 256) (n : Nat) : Byte × Byte :=
  (buf.toList.take n).foldl scanStep (0xFF, 0x00)

/-- N(psm) (43_alpha_range.md R162). -/
def scanCount (cfg : Config) (psm : BitVec 6) : Nat :=
  (fmtOf cfg psm).pal

/-- The fast path applies: D24 and no alpha exclusion in the Read Snapshot (43_alpha_range.md R161). -/
def fastAlpha (s : State) : Bool :=
  depthOf s.config s.rTex.cpsm == .d24 && !s.rAlpha.aem

/-- ALPHA_MINMAX (43_alpha_range.md R160); the checks run in the order of 60_exceptions.md R174. -/
def execAlphaMinMax (s : State) : Outcome :=
  if s.rDirty then raise .alphaPrecond
  else if readPath s.config s.rTex = .none then raise .alphaPal
  else if fastAlpha s then .next (s.complete (.alphaRange s.rAlpha.ta0 s.rAlpha.ta0) [])
  else if s.rAlphaDirty then
    let p := scanAlpha s.buf32 (scanCount s.config s.rTex.psm)
    .next ((s.setMemo p.1 p.2).complete (.alphaRange p.1 p.2) [])
  else .next (s.complete (.alphaRange s.rAmin s.rAmax) [])

end Sys2Proof.Machine
end

