-- ==== Sys2Proof/Machine/ReadExpand.lean ====
section
/-! DEFINITION. The READ command and the expansion paths (spec/42_read_expand.md R130 to R145). -/
namespace Sys2Proof.Machine

/-- The alpha byte of a raw 16-bit entry: the top bit selects, and exclusion overrides (42_read_expand.md R140). -/
def alpha16 (v : Half) (a : AlphaCfg) : Byte :=
  if a.aem && v == 0 then 0
  else if v.extractLsb' 15 1 = 1 then a.ta1
  else a.ta0

/-- EXPAND16(v, A) (42_read_expand.md R140). -/
def expand16 (v : Half) (a : AlphaCfg) : Word :=
  (alpha16 v a).setWidth 32 <<< 24 ||| (v.extractLsb' 10 5).setWidth 32 <<< 19 |||
    (v.extractLsb' 5 5).setWidth 32 <<< 11 ||| (v.extractLsb' 0 5).setWidth 32 <<< 3

/-- The first Palette Store entry of output group g: clamped to group 15, not wrapped (42_read_expand.md R134). -/
def clampedStart (csa : BitVec 5) (g : Nat) : Nat :=
  min (16 * (csa.toNat + g)) 240

/-- E32_I8 (42_read_expand.md R134): output entry k is entry k mod 16 of group k / 16. -/
def expandE32I8 (clut : Vector Half 512) (buf : Vector Word 256) (t : TexCfg) : Vector Word 256 :=
  rewriteBuf32 buf 256 fun k => pair32 clut (clampedStart t.csa (k / 16) + k % 16)

/-- E32_I4's BUF32 (42_read_expand.md R135). -/
def expandE32I4 (clut : Vector Half 512) (buf : Vector Word 256) (t : TexCfg) : Vector Word 256 :=
  rewriteBuf32 buf 16 fun j => pair32 clut (csaBase t.csa + j)

/-- E16_I8 (42_read_expand.md R136). -/
def expandE16I8 (clut : Vector Half 512) (buf : Vector Word 256) (t : TexCfg) (a : AlphaCfg) : Vector Word 256 :=
  rewriteBuf32 buf 256 fun k => expand16 (clutAt clut (csaBase t.csa + k)) a

/-- E16_I4's BUF32 (42_read_expand.md R137). -/
def expandE16I4 (clut : Vector Half 512) (buf : Vector Word 256) (t : TexCfg) (a : AlphaCfg) : Vector Word 256 :=
  rewriteBuf32 buf 16 fun j => expand16 (clutAt clut (csaBase t.csa + j)) a

/-- A path's effect on the buffers; the 4-bit paths also replicate (42_read_expand.md R134 to R138, R145). -/
def runPath (path : ExpandPath) (s : State) (t : TexCfg) (a : AlphaCfg) : State :=
  match path with
  | .e32I8 => s.setBuffers (expandE32I8 s.clut s.buf32 t) s.buf64
  | .e32I4 => s.setBuffers (expandE32I4 s.clut s.buf32 t) (replicate64 (expandE32I4 s.clut s.buf32 t))
  | .e16I8 => s.setBuffers (expandE16I8 s.clut s.buf32 t a) s.buf64
  | .e16I4 => s.setBuffers (expandE16I4 s.clut s.buf32 t a) (replicate64 (expandE16I4 s.clut s.buf32 t a))
  | .none => s

/-- The result of READ: copies of the buffers, and the `recomputed` bit (42_read_expand.md R130). -/
def paletteResult (s : State) (recomputed : Bool) : ResultValue :=
  .palette s.buf32 s.buf64 recomputed

/-- READ (42_read_expand.md R130): a hit refreshes the snapshot, a miss recomputes. -/
def execRead (t : TexCfg) (a : AlphaCfg) (s : State) : Outcome :=
  if readDirty s t a then
    let u := runPath (readPath s.config t) (s.beginExpand t a) t a
    .next (u.complete (paletteResult u true) [])
  else
    let u := s.refreshRead t a
    .next (u.complete (paletteResult u false) [])

end Sys2Proof.Machine
end

