-- ==== Sys2Proof/Machine/WriteTracker.lean ====
section
/-! DEFINITION. The Write State Tracker commands (spec/40_write_tracker.md R80 to R85). -/
namespace Sys2Proof.Machine

/-- WRITE_TEST's decision and its effect on LC and the Write Snapshot (40_write_tracker.md R80). -/
def writeTest (s : State) (t : TexCfg) (c : GatherCfg) : Bool × State :=
  if (fmtOf s.config t.psm).pal = 0 then (false, s)
  else
    match loadRule t.cld with
    | .never => (false, s)
    | .always => writeDirtyTest s t c
    | .record slot => writeDirtyTest (s.writeLc slot t.cbp) t c
    | .ifDiffers slot =>
      if s.readLc slot = t.cbp then (false, s)
      else writeDirtyTest (s.writeLc slot t.cbp) t c

/-- WRITE_TEST (40_write_tracker.md R80). -/
def execWriteTest (t : TexCfg) (c : GatherCfg) (s : State) : Outcome :=
  let r := writeTest s t c
  .next (r.2.complete (.reload r.1) [])

/-- INVALIDATE (40_write_tracker.md R82). -/
def execInvalidate (s : State) : Outcome :=
  .next (s.markWriteDirty.complete .nothing [])

/-- INVALIDATE_BLOCK (40_write_tracker.md R84). -/
def execInvalidateBlock (block : BlockNum) (s : State) : Outcome :=
  let t := if sameGroup block s.wTex.cbp then s.markWriteDirty else s
  .next (t.complete .nothing [])

/-- INVALIDATE_RANGE (40_write_tracker.md R85). -/
def execInvalidateRange (first last : BlockNum) (s : State) : Outcome :=
  let t := if rangeMeets first last s.wTex.cbp (footprint s.config s.wTex) then s.markWriteDirty else s
  .next (t.complete .nothing [])

end Sys2Proof.Machine
end

