-- ==== Sys2Proof/Machine/WriteCodecs.lean ====
section
/-! DEFINITION. The WRITE and LOAD commands and the write codecs (spec/41_write_codecs.md R100 to R114). -/
namespace Sys2Proof.Machine

/-- D32_I8 (41_write_codecs.md R107): no iteration when CSA is 16 or more. -/
def writeD32I8 (cfg : Config) (r : Raster) (clut : Vector Half 512) (t : TexCfg) : Vector Half 512 :=
  match cfg.t32I8Write with
  | .absolute =>
    fillClut32 clut (csaBase t.csa) (256 - csaBase t.csa) fun k => r.blkRead32 t.cbp (s32 (csaBase t.csa + k))
  | .relative =>
    fillClut32 clut (csaBase t.csa) (256 - csaBase t.csa) fun k => r.blkRead32 t.cbp (s32 k)

/-- D32_I4 (41_write_codecs.md R108). -/
def writeD32I4 (r : Raster) (clut : Vector Half 512) (t : TexCfg) : Vector Half 512 :=
  fillClut32 clut (csaBase t.csa) 16 fun j => r.blkRead32 t.cbp (s32 j)

/-- D16_I8 (41_write_codecs.md R109). -/
def writeD16I8 (cfg : Config) (r : Raster) (clut : Vector Half 512) (t : TexCfg) : Vector Half 512 :=
  fillClut clut (csaBase t.csa) 256 fun k => view16 r (depthOf cfg t.cpsm) t.cbp (s16 k)

/-- D16_I4 (41_write_codecs.md R111). -/
def writeD16I4 (cfg : Config) (r : Raster) (clut : Vector Half 512) (t : TexCfg) : Vector Half 512 :=
  fillClut clut (csaBase t.csa) 16 fun j => view16 r (depthOf cfg t.cpsm) t.cbp (s16 j)

/-- The base entry of a 32-bit gather load (41_write_codecs.md R113; decision D22). -/
def gather32BaseEntry (cfg : Config) (t : TexCfg) : Nat :=
  match cfg.gather32Base with
  | .mod16 => 16 * (t.csa.toNat % 16)
  | .zero => 0

/-- G32(n) (41_write_codecs.md R113). -/
def writeG32 (cfg : Config) (r : Raster) (clut : Vector Half 512) (t : TexCfg) (c : GatherCfg) (n : Nat) :
    Vector Half 512 :=
  fillClut32 clut (gather32BaseEntry cfg t) n fun i => r.memRead32 (gatherAddress r t c i)

/-- G16(n) (41_write_codecs.md R114). -/
def writeG16 (r : Raster) (clut : Vector Half 512) (t : TexCfg) (c : GatherCfg) (n : Nat) : Vector Half 512 :=
  fillClut clut (csaBase t.csa) n fun i => r.memRead16 (gatherAddress r t c i)

/-- The Palette Store after a routine, or none for NULL, which writes no entry (41_write_codecs.md R101, R102). -/
def runRoutine (routine : WriteRoutine) (cfg : Config) (r : Raster) (clut : Vector Half 512) (t : TexCfg)
    (c : GatherCfg) : Option (Vector Half 512) :=
  match routine with
  | .d32I8 => some (writeD32I8 cfg r clut t)
  | .d32I4 => some (writeD32I4 r clut t)
  | .d16I8 => some (writeD16I8 cfg r clut t)
  | .d16I4 => some (writeD16I4 cfg r clut t)
  | .g32 n => some (writeG32 cfg r clut t c n)
  | .g16 n => some (writeG16 r clut t c n)
  | .null => none

/-- WRITE's effect, its status and its warnings (41_write_codecs.md R100, R102). -/
def writePalette (s : State) (t : TexCfg) (c : GatherCfg) : State × WriteStatus × List Warning :=
  match runRoutine (writeRoutine s.config t) s.config s.raster s.clut t c with
  | some clut => ((s.commitWrite t c).setClut clut, .ok, [])
  | none => (s.commitWrite t c, .unsupported, [.unsupportedWrite t.csm t.cpsm t.psm])

/-- WRITE (41_write_codecs.md R100). -/
def execWrite (t : TexCfg) (c : GatherCfg) (s : State) : Outcome :=
  let r := writePalette s t c
  .next (r.1.complete (.status r.2.1) r.2.2)

/-- LOAD: WRITE_TEST, and WRITE when it returned 1, as one command (41_write_codecs.md R104). -/
def execLoad (t : TexCfg) (c : GatherCfg) (s : State) : Outcome :=
  let p := writeTest s t c
  if p.1 then
    let r := writePalette p.2 t c
    .next (r.1.complete (.load true (some r.2.1)) r.2.2)
  else .next (p.2.complete (.load false none) [])

end Sys2Proof.Machine
end

