-- ==== Sys2Proof/Machine/Dispatch.lean ====
section
/-! DEFINITION. One arm per command (spec/30_encoding.md R70). -/
namespace Sys2Proof.Machine

def exec (i : Instr) (s : State) : Host.Outcome State Fault Refusal :=
  match i with
  | .writeTest t c => Sys2Proof.Machine.execWriteTest t c s
  | .write t c => Sys2Proof.Machine.execWrite t c s
  | .load t c => Sys2Proof.Machine.execLoad t c s
  | .read t a => Sys2Proof.Machine.execRead t a s
  | .alphaMinMax => Sys2Proof.Machine.execAlphaMinMax s
  | .invalidate => Sys2Proof.Machine.execInvalidate s
  | .invalidateBlock block => Sys2Proof.Machine.execInvalidateBlock block s
  | .invalidateRange first last => Sys2Proof.Machine.execInvalidateRange first last s

end Sys2Proof.Machine
end

