-- ==== Sys2Proof/Machine/Sequencer.lean ====
section
/-! DEFINITION. What one step does with the next host event (spec/00_scope.md R2, R10; spec/20_memory.md R51,
R53; spec/60_exceptions.md R174, R175, R180). -/
namespace Sys2Proof.Machine

/-- The command port: a reserved OP is refused at decode, else the command runs (60_exceptions.md R174, R175). -/
def runCommand (w : CommandWords) (s : State) : Outcome :=
  match decode w with
  | .ok i => exec i s
  | .error (.reservedOp op) => refuse (.reservedOp op)

/-- One host event, in a state whose queue no longer holds it. -/
def runEvent (e : HostEvent) (s : State) : Outcome :=
  match e with
  | .command w => runCommand w s
  | .foreignCommand _ => refuse .secondAgent
  | .rasterByte space address value => .next (s.setRaster (s.raster.writeByte space address value))
  | .resolverEntry key element => .next (s.setRaster (s.raster.writeResolver key element))

/-- One step: an ended run stays ended, an ill-formed FMT is refused before any command, an idle block keeps
its state, and otherwise the first event of the queue is taken (60_exceptions.md R171, R174, R182;
log 8, 9, 17). -/
def nextEvent (s : State) : Outcome :=
  if s.runOver then refuse .runEnded
  else if s.config.wellFormed then
    match s.pending with
    | [] => .next s
    | e :: rest => runEvent e (s.takeEvent rest)
  else refuse .badConfig

end Sys2Proof.Machine
end

