-- ==== Sys2Proof/Machine/Step.lean ====
section
/-! DEFINITION. The step, and the placing of a command where the next step takes it (log 1, 11). -/
namespace Sys2Proof.Machine

/-- One step of the block: the next host event (Machine/Sequencer.lean). -/
def step (s : State) : Host.Outcome State Fault Refusal :=
  nextEvent s

/-- The command of an opcode-table row, issued as the host's next command. -/
def State.withFetchWord (s : State) (nbits w : Nat) : State :=
  s.issue (tableWords nbits w)

/-- The state a run is left in by one step, run marks included (60_exceptions.md R171, R175). -/
def advance (s : State) : State :=
  s.afterOutcome (step s)

end Sys2Proof.Machine
end

