-- ==== Sys2Proof/Safety.lean ====
section
/-! DEFINITION. What a safe run is (spec/60_exceptions.md R170 to R175, spec/70_reset_and_hazards.md R193), the
frames claims are stated with (spec/10_state.md R35), and the invariants of the machine. -/
namespace Sys2Proof.Safety
open Sys2Proof.Machine

/-- The run goes on: no run mark is set and the configuration is well formed (10_state.md R32; 00_scope.md R7). -/
def Live (s : State) : Prop :=
  s.runOver = false ∧ s.config.wellFormed = true

/-- The host's precondition of ALPHA_MINMAX: a current expansion, and a snapshot that selects a path
(70_reset_and_hazards.md R193). -/
def AlphaQueryValid (s : State) : Prop :=
  s.rDirty = false ∧ readPath s.config s.rTex ≠ .none

/-- A safe step: it ends in a next state. -/
def SafeStep (s : State) : Prop :=
  ∃ t, step s = .next t

/-- "32/24-bit" in a rule: D32 or D24 (30_encoding.md R67). -/
def Is32 (d : Depth) : Prop :=
  d = .d32 ∨ d = .d24

/-- "16-bit depth" in a rule: D16 or D16S (30_encoding.md R67). -/
def Is16 (d : Depth) : Prop :=
  d = .d16 ∨ d = .d16s

-- Frames: the parts of the state of R35's table.

/-- CLUT is unchanged. -/
def SameClut (s t : State) : Prop :=
  t.clut = s.clut

/-- BUF32 and BUF64 are unchanged. -/
def SameBuffers (s t : State) : Prop :=
  t.buf32 = s.buf32 ∧ t.buf64 = s.buf64

/-- The Write Snapshot is unchanged. -/
def SameWriteSnapshot (s t : State) : Prop :=
  t.wTex = s.wTex ∧ t.wGather = s.wGather

/-- The Load-Control Memory is unchanged. -/
def SameLc (s t : State) : Prop :=
  t.lc0 = s.lc0 ∧ t.lc1 = s.lc1

/-- The Read Snapshot is unchanged. -/
def SameReadSnapshot (s t : State) : Prop :=
  t.rTex = s.rTex ∧ t.rAlpha = s.rAlpha

/-- The alpha memo and its flag are unchanged. -/
def SameMemo (s t : State) : Prop :=
  t.rAlphaDirty = s.rAlphaDirty ∧ t.rAmin = s.rAmin ∧ t.rAmax = s.rAmax

/-- The Read State Tracker is unchanged. -/
def SameReadTracker (s t : State) : Prop :=
  SameReadSnapshot s t ∧ t.rDirty = s.rDirty ∧ SameMemo s t

/-- What is not state of the block is unchanged: every byte of the raster image, the resolver, the parameters,
what the host will issue, and the run marks. -/
def SameSurroundings (s t : State) : Prop :=
  (∀ space address, t.raster.readByte space address = s.raster.readByte space address) ∧
  (∀ key, t.raster.readResolver key = s.raster.readResolver key) ∧
  t.config = s.config ∧ t.pending = s.pending ∧ t.faulted = s.faulted ∧ t.refused = s.refused

/-- One more command has completed, with this result (70_reset_and_hazards.md R199). -/
def Completed (s t : State) (value : ResultValue) (warnings : List Warning) : Prop :=
  t.result = some { value := value, warnings := warnings } ∧ t.cmdIndex = s.cmdIndex + 1

-- Invariants.

/-- While the memo is not stale it is the (min, max) alpha of a scan of the current buffer, over 16 or over 256
entries (43_alpha_range.md R163 (d)). -/
def MemoDescribesBuffer (s : State) : Prop :=
  s.rAlphaDirty = false →
    (s.rAmin, s.rAmax) = scanAlpha s.buf32 16 ∨ (s.rAmin, s.rAmax) = scanAlpha s.buf32 256

/-- The machine's invariant: the run goes on, the raster image has its canonical form, and the memo describes
the buffer. -/
def Inv (s : State) : Prop :=
  Live s ∧ s.raster.wf ∧ MemoDescribesBuffer s

/-- Every format of this format's bit depth has its palette size. The dirty tests compare formats by bit depth
only (42_read_expand.md R146 (b)), so only such a format's hits are sure to mean the same palette. -/
def BppFixesPalette (cfg : Config) (psm : BitVec 6) : Prop :=
  ∀ c : BitVec 6, (fmtOf cfg c).bpp = (fmtOf cfg psm).bpp → (fmtOf cfg c).pal = (fmtOf cfg psm).pal

/-- The alpha fields that the depth's expansion reads are compared by RDIRTY: all depths but D16S without
READ16S_ALPHA_CMP (42_read_expand.md R131). -/
def AlphaCompared (cfg : Config) (d : Depth) : Prop :=
  d = .d16s → cfg.read16sAlphaCmp = true

/-- Entry k of BUF32 as a fresh expansion of CLUT would make it (42_read_expand.md R134 to R137). -/
def freshEntry (path : ExpandPath) (s : State) (k : Nat) : Word :=
  match path with
  | .e32I8 => pair32 s.clut (min (16 * (s.rTex.csa.toNat + k / 16)) 240 + k % 16)
  | .e32I4 => pair32 s.clut (16 * s.rTex.csa.toNat + k)
  | .e16I8 => expand16 (clutAt s.clut (16 * s.rTex.csa.toNat + k)) s.rAlpha
  | .e16I4 => expand16 (clutAt s.clut (16 * s.rTex.csa.toNat + k)) s.rAlpha
  | .none => buf32At s.buf32 k

/-- Entry k of BUF64, made of the low and the high nibble's entries of BUF32 (42_read_expand.md R145). -/
def dualEntry (buf : Vector Word 256) (k : Nat) : DWord :=
  (buf32At buf (k % 16)).setWidth 64 ||| (buf32At buf (k / 16)).setWidth 64 <<< 32

/-- Cache coherence: while R.dirty = 0, the palette entries of BUF32, and BUF64 for 4-bit indices, are what a
fresh expansion of CLUT under the Read Snapshot would give, for a format whose bit depth fixes its palette
and a depth whose alpha fields are compared. -/
def ExpansionIsFresh (s : State) : Prop :=
  s.rDirty = false → BppFixesPalette s.config s.rTex.psm → AlphaCompared s.config (depthOf s.config s.rTex.cpsm) →
    (∀ k, k < 256 → k < (fmtOf s.config s.rTex.psm).pal →
      buf32At s.buf32 k = freshEntry (readPath s.config s.rTex) s k) ∧
    (readPath s.config s.rTex = .e32I4 ∨ readPath s.config s.rTex = .e16I4 →
      ∀ k, k < 256 → buf64At s.buf64 k = dualEntry s.buf32 k)

/-- Two states that differ at most in what no command result can show: the Write Snapshot while W.dirty = 1, the
Read Snapshot while R.dirty = 1, the memo while R.adirty = 1 (10_state.md R33). -/
def SameButUnobservable (s t : State) : Prop :=
  SameClut s t ∧ SameBuffers s t ∧ SameLc s t ∧
  t.wDirty = s.wDirty ∧ (s.wDirty = false → SameWriteSnapshot s t) ∧
  t.rDirty = s.rDirty ∧ (s.rDirty = false → SameReadSnapshot s t) ∧
  t.rAlphaDirty = s.rAlphaDirty ∧ (s.rAlphaDirty = false → t.rAmin = s.rAmin ∧ t.rAmax = s.rAmax) ∧
  t.raster = s.raster ∧ t.config = s.config ∧ t.pending = s.pending ∧ t.faulted = s.faulted ∧
  t.refused = s.refused ∧ t.cmdIndex = s.cmdIndex ∧ t.result = s.result

/-- Two outcomes of the same kind: the same fault, the same refusal, or next states that are related. -/
def OutcomesAgree (rel : State → State → Prop) (o p : Outcome) : Prop :=
  match o, p with
  | .next s, .next t => rel s t
  | .fault f, .fault g => f = g
  | .refused q, .refused r => q = r
  | _, _ => False

/-- Two raster images agree on n blocks from b, as the direct views show them: element k of a 32-bit view lies in
block b + k / 64, of a 16-bit view in block b + k / 128 (20_memory.md R44). -/
def AgreeOnBlocks (r r' : Raster) (b : BlockNum) (n : Nat) : Prop :=
  (∀ k, k < 256 → k / 64 < n → r.blkRead32 b k = r'.blkRead32 b k) ∧
  (∀ k, k < 256 → k / 128 < n → r.blkRead16 b k = r'.blkRead16 b k) ∧
  (∀ k, k < 256 → k / 128 < n → r.blkRead16S b k = r'.blkRead16S b k)

end Sys2Proof.Safety
end

