-- ==== Sys2Proof/Certificates/Slice0/Obligations.lean ====
section
/-! DEFINITION. The statements for the provers, one per line of OBLIGATIONS.json.

In every statement: `Completed` also says that the command index advances by one, which is the spec's own decision
D34 (R199), and reads the command's result in the field `result`, which is the model's (log 7); `SameSurroundings`
also speaks of the model's own fields (log 1, 2, 6). The OP values and the positions of the operand fields are the
spec's own decisions D1 to D3. Where a docstring names a decision D<n> of
92_eei_decisions.md, the clause it marks is the spec's choice, not its source's. -/
open Sys2Proof Sys2Proof.Machine Sys2Proof.Safety

-- Encoding (spec/30_encoding.md).

/-- R61 to R64, R70: the words of a command decode to that command, every operand at every value. -/
def Obligations.DecodeOfEncodeIsTheCommand : Prop :=
  ∀ i : Instr, i.wellFormed = true → decode (encode i) = .ok i

/-- R72: two command words with the same OP that agree on the fields of R61 to R64 decode alike, whatever their
other bits: T 63:37 and 25:20, C 21:0, A 39:32, 15 and 7:0, B 29:16 and 13:0. -/
def Obligations.IgnoredBitsHaveNoEffect : Prop :=
  ∀ w w' : CommandWords, w.op = w'.op →
    w.t &&& 0xFFFFFFE003F00000 = w'.t &&& 0xFFFFFFE003F00000 →
    w.c &&& 0x00000000003FFFFF = w'.c &&& 0x00000000003FFFFF →
    w.a &&& 0x000000FF000080FF = w'.a &&& 0x000000FF000080FF →
    w.b &&& 0x000000003FFF3FFF = w'.b &&& 0x000000003FFF3FFF →
    decode w = decode w'

/-- R60, R70: each command reads the words its row names and ignores the others. -/
def Obligations.UnnamedWordsAreIgnored : Prop :=
  ∀ (w w' : CommandWords) (i : Instr), w.op = w'.op → decode w = .ok i →
    ((w.op = 1 ∨ w.op = 2 ∨ w.op = 3) → w.t = w'.t → w.c = w'.c → decode w' = .ok i) ∧
    (w.op = 4 → w.t = w'.t → w.a = w'.a → decode w' = .ok i) ∧
    ((w.op = 5 ∨ w.op = 6) → decode w' = .ok i) ∧
    ((w.op = 7 ∨ w.op = 8) → w.b = w'.b → decode w' = .ok i)

/-- 95_test_vectors.md EN1, EN3, EN4, EN7, EN8, EN10: sample words decode to the commands they stand for. -/
def Obligations.SampleWordsDecode : Prop :=
  decode { op := 1, t := 0x2000200001300000, c := 0, a := 0, b := 0 } =
    .ok (.writeTest ⟨0x13, 0x100, 0, .direct, 0, 1⟩ ⟨0, 0, 0⟩) ∧
  decode { op := 1, t := 0x2000200001300001, c := 0, a := 0, b := 0 } =
    .ok (.writeTest ⟨0x13, 0x100, 0, .direct, 0, 1⟩ ⟨0, 0, 0⟩) ∧
  decode { op := 3, t := 0x4180080001400000, c := 0x5084, a := 0, b := 0 } =
    .ok (.load ⟨0x14, 0x40, 0, .gather, 1, 2⟩ ⟨4, 2, 5⟩) ∧
  decode { op := 4, t := 0x2310400001400000, c := 0, a := 0x0000008000008040, b := 0 } =
    .ok (.read ⟨0x14, 0x200, 2, .direct, 3, 1⟩ ⟨0x40, true, 0x80⟩) ∧
  decode { op := 7, t := 0, c := 0, a := 0, b := 0x11F } = .ok (.invalidateBlock 0x11F) ∧
  decode { op := 8, t := 0, c := 0, a := 0, b := 0x01030100 } = .ok (.invalidateRange 0x100 0x103)

-- The step and the outcomes (spec/00_scope.md R2, R10; spec/60_exceptions.md).

/-- A step runs the decoded command: the issued command, once it decodes, is executed in the state whose queue no
longer holds it. The queue is the model's form of the command port (log 1). -/
def Obligations.StepRunsTheIssuedCommand : Prop :=
  ∀ (s : State) (w : CommandWords) (rest : List HostEvent) (i : Instr),
    Live s → s.pending = .command w :: rest → decode w = .ok i →
    step s = exec i { s with pending := rest }

/-- An idle block keeps its state, and a raster change by another pipeline stage changes the one byte and nothing
else but the queue, which loses that event and no other (R53, R182; the queue is log 1 and 2). -/
def Obligations.RasterEventChangesOneByte : Prop :=
  ∀ (s : State) (rest : List HostEvent) (space : RasterSpace) (address : Nat) (value : Byte),
    Live s → s.raster.wf → s.pending = .rasterByte space address value :: rest →
    step { s with pending := [] } = .next { s with pending := [] } ∧
    ∃ t, step s = .next t ∧ t.pending = rest ∧ t.raster.readByte space address = value ∧
      (∀ space' address', (space', address') ≠ (space, address) →
        t.raster.readByte space' address' = s.raster.readByte space' address') ∧
      (∀ key, t.raster.readResolver key = s.raster.readResolver key) ∧
      { t with raster := s.raster, pending := s.pending } = s

/-- R170: of the commands the host issues in a run that goes on, a reserved OP is refused, ALPHA_MINMAX faults
exactly when its precondition fails, and every other command, with every operand value, ends in a next state;
an ill-formed configuration is refused. -/
def Obligations.OnlyAlphaQueryFaultsAndOnlyReservedOpIsRefused : Prop :=
  ∀ (s : State) (w : CommandWords) (rest : List HostEvent), s.runOver = false → s.pending = .command w :: rest →
    (s.config.wellFormed = false → step s = .refused .badConfig) ∧
    (s.config.wellFormed = true →
      ((∃ r, step s = .refused r) ↔ (w.op = 0 ∨ 9 ≤ w.op.toNat)) ∧
      ((∃ f, step s = .fault f) ↔ (w.op = 5 ∧ ¬ AlphaQueryValid s)) ∧
      ((∃ t, step s = .next t) ↔ (w.op ≠ 0 ∧ w.op.toNat ≤ 8 ∧ (w.op = 5 → AlphaQueryValid s))))

/-- R71, R175: a reserved OP is refused by its name, whatever the operand words. -/
def Obligations.ReservedOpIsRefusedByName : Prop :=
  ∀ (s : State) (w : CommandWords) (rest : List HostEvent),
    Live s → s.pending = .command w :: rest → (w.op = 0 ∨ 9 ≤ w.op.toNat) →
    step s = .refused (.reservedOp w.op)

/-- R171, R175: a fault and a refusal leave every state element and set their run mark, and the run has then
ended (log 8). -/
def Obligations.StopMarksTheRunAndChangesNothingElse : Prop :=
  ∀ s : State, s.runOver = false →
    (∀ f, step s = .fault f →
      advance s = { s with faulted := true } ∧ step (advance s) = .refused .runEnded) ∧
    (∀ r, step s = .refused r →
      advance s = { s with refused := true } ∧ step (advance s) = .refused .runEnded)

/-- R199: a command that ends in a next state adds 1 to the command index, and no command reads it. -/
def Obligations.CommandIndexCountsAndIsNotRead : Prop :=
  ∀ (i : Instr) (s : State) (m : Nat),
    (∀ t, exec i s = .next t →
      t.cmdIndex = s.cmdIndex + 1 ∧ exec i { s with cmdIndex := m } = .next { t with cmdIndex := m + 1 }) ∧
    (∀ f, exec i s = .fault f → exec i { s with cmdIndex := m } = .fault f)

-- The Write State Tracker (spec/40_write_tracker.md).

/-- R80: WRITE_TEST returns 1 exactly when the load-control code lets the dirty test run and it reports dirty; it
records the base in the slot the code names, refreshes the snapshot when the test reports clean, and changes
nothing else. Its OP is 1. -/
def Obligations.WriteTestFollowsLoadControl : Prop :=
  (∀ w : CommandWords, w.op = 0x1 → decode w = .ok (.writeTest (decodeT w.t) (decodeC w.c))) ∧
  ∀ (t : TexCfg) (c : GatherCfg) (s : State), ∃ u, exec (.writeTest t c) s = .next u ∧
    (let indexed := (fmtOf s.config t.psm).pal ≠ 0
     let runs := indexed ∧ (t.cld = 1 ∨ t.cld = 2 ∨ t.cld = 3 ∨ (t.cld = 4 ∧ s.lc0 ≠ t.cbp) ∨
       (t.cld = 5 ∧ s.lc1 ≠ t.cbp))
     (runs → Completed s u (.reload (writeDirty s t c)) []) ∧
     (¬ runs → Completed s u (.reload false) []) ∧
     (indexed ∧ (t.cld = 2 ∨ t.cld = 4) → u.lc0 = t.cbp ∧ u.lc1 = s.lc1) ∧
     (indexed ∧ (t.cld = 3 ∨ t.cld = 5) → u.lc0 = s.lc0 ∧ u.lc1 = t.cbp) ∧
     (¬ indexed ∨ t.cld = 0 ∨ t.cld = 1 ∨ t.cld = 6 ∨ t.cld = 7 → SameLc s u) ∧
     (runs ∧ writeDirty s t c = false → u.wTex = t ∧ u.wGather = c) ∧
     (¬ runs ∨ writeDirty s t c = true → SameWriteSnapshot s u)) ∧
    u.wDirty = s.wDirty ∧ SameClut s u ∧ SameBuffers s u ∧ SameReadTracker s u ∧ SameSurroundings s u

/-- R81: what the write dirty test reports. D12 and D13 are the spec's own decisions there. -/
def Obligations.WriteDirtyTestComparesTheSnapshot : Prop :=
  ∀ (s : State) (t : TexCfg) (c : GatherCfg),
    writeDirty s t c = true ↔
      (s.wDirty = true ∨ t.csa ≠ s.wTex.csa ∨ t.csm ≠ s.wTex.csm ∨ t.cpsm ≠ s.wTex.cpsm ∨ t.cbp ≠ s.wTex.cbp ∨
        (fmtOf s.config t.psm).bpp ≠ (fmtOf s.config s.wTex.psm).bpp ∨
        (t.csm = (match s.config.gatherCmp with | .direct => .direct | .gather => .gather) ∧
          (c.cbw, c.cou, c.cov) ≠ (s.wGather.cbw, s.wGather.cou, s.wGather.cov)))

/-- R86 (b): WRITE_TEST, WRITE, WRITE_TEST with the same operands and CLD = 1, from a write-dirty state and an
indexed format, returns 1 then 0. -/
def Obligations.WriteTestAroundAWriteReturnsOneThenZero : Prop :=
  ∀ (s : State) (t : TexCfg) (c : GatherCfg), (fmtOf s.config t.psm).pal ≠ 0 → t.cld = 1 → s.wDirty = true →
    ∃ u v w, exec (.writeTest t c) s = .next u ∧ Completed s u (.reload true) [] ∧
      exec (.write t c) u = .next v ∧
      exec (.writeTest t c) v = .next w ∧ Completed v w (.reload false) []

/-- R82: INVALIDATE sets W.dirty and touches nothing else; a following WRITE_TEST with load-control code 0, 6 or 7
still returns 0. Its OP is 6. -/
def Obligations.InvalidateSetsWriteDirtyOnly : Prop :=
  (∀ w : CommandWords, w.op = 0x6 → decode w = .ok .invalidate) ∧
  ∀ s : State, ∃ u, exec .invalidate s = .next u ∧ u.wDirty = true ∧ Completed s u .nothing [] ∧
    SameClut s u ∧ SameBuffers s u ∧ SameWriteSnapshot s u ∧ SameLc s u ∧ SameReadTracker s u ∧
    SameSurroundings s u ∧
    ∀ t c, (t.cld = 0 ∨ t.cld = 6 ∨ t.cld = 7) → ∃ v, exec (.writeTest t c) u = .next v ∧
      Completed u v (.reload false) [] ∧ v.wDirty = true

/-- R83: the footprint is 4 blocks, halved for a 16-bit depth and halved again for a 4-bit format (D15 is the
spec's own decision there). -/
def Obligations.FootprintHalvesWithBitDepths : Prop :=
  ∀ (cfg : Config) (x : TexCfg),
    (Is16 (depthOf cfg x.cpsm) ∧ (fmtOf cfg x.psm).bpp = .b4 → footprint cfg x = 1) ∧
    (Is16 (depthOf cfg x.cpsm) ∧ (fmtOf cfg x.psm).bpp ≠ .b4 → footprint cfg x = 2) ∧
    (¬ Is16 (depthOf cfg x.cpsm) ∧ (fmtOf cfg x.psm).bpp = .b4 → footprint cfg x = 2) ∧
    (¬ Is16 (depthOf cfg x.cpsm) ∧ (fmtOf cfg x.psm).bpp ≠ .b4 → footprint cfg x = 4)

/-- R84: INVALIDATE_BLOCK sets W.dirty exactly when the block lies in the snapshot base's group of 32 blocks, and
touches nothing else. Its OP is 7 (R70, D1) and BLOCK is B 13:0 (R64, D2 and D3: the spec's own decisions). -/
def Obligations.InvalidateBlockTestsTheGroup : Prop :=
  (∀ w : CommandWords, w.op = 0x7 → decode w = .ok (.invalidateBlock (w.b.extractLsb' 0 14))) ∧
  ∀ (block : BlockNum) (s : State), ∃ u, exec (.invalidateBlock block) s = .next u ∧
    (block.toNat / 32 = s.wTex.cbp.toNat / 32 → u.wDirty = true) ∧
    (block.toNat / 32 ≠ s.wTex.cbp.toNat / 32 → u.wDirty = s.wDirty) ∧
    Completed s u .nothing [] ∧ SameClut s u ∧ SameBuffers s u ∧ SameWriteSnapshot s u ∧ SameLc s u ∧
    SameReadTracker s u ∧ SameSurroundings s u

/-- R85: INVALIDATE_RANGE sets W.dirty exactly when some block of the footprint lies in the closed range, on
unbounded block numbers, and touches nothing else (D16 is the spec's own decision there). -/
def Obligations.InvalidateRangeMeetsTheFootprint : Prop :=
  ∀ (first last : BlockNum) (s : State), ∃ u, exec (.invalidateRange first last) s = .next u ∧
    (u.wDirty = true ↔ s.wDirty = true ∨ ∃ b : Nat, s.wTex.cbp.toNat ≤ b ∧
      b < s.wTex.cbp.toNat + footprint s.config s.wTex ∧ first.toNat ≤ b ∧ b ≤ last.toNat) ∧
    Completed s u .nothing [] ∧ SameClut s u ∧ SameBuffers s u ∧ SameWriteSnapshot s u ∧ SameLc s u ∧
    SameReadTracker s u ∧ SameSurroundings s u

/-- R54: after a maintenance command that leaves W.dirty set, WRITE_TEST of an indexed format returns 1 for codes
1, 2 and 3; for 4 and 5 exactly when the base differs from the slot; 0 for 0, 6 and 7. -/
def Obligations.InvalidationForcesTheNextReload : Prop :=
  ∀ (i : Instr) (s u : State) (t : TexCfg) (c : GatherCfg),
    (i = .invalidate ∨ (∃ b, i = .invalidateBlock b) ∨ ∃ a b, i = .invalidateRange a b) →
    exec i s = .next u → u.wDirty = true → (fmtOf s.config t.psm).pal ≠ 0 →
    ∃ v d, exec (.writeTest t c) u = .next v ∧ Completed u v (.reload d) [] ∧
      (d = true ↔ t.cld = 1 ∨ t.cld = 2 ∨ t.cld = 3 ∨ (t.cld = 4 ∧ t.cbp ≠ s.lc0) ∨ (t.cld = 5 ∧ t.cbp ≠ s.lc1))

-- WRITE, LOAD and the codecs (spec/41_write_codecs.md).

/-- R100: WRITE records its operands, clears W.dirty, sets R.dirty and runs the dispatched routine; it does not
look at CLD, the next WRITE_TEST with its operands returns 0 (even after the no-op), and LC and the Read Snapshot
are not touched. Its OP is 2. -/
def Obligations.WriteCommitsUnconditionally : Prop :=
  (∀ w : CommandWords, w.op = 0x2 → decode w = .ok (.write (decodeT w.t) (decodeC w.c))) ∧
  ∀ (t : TexCfg) (c : GatherCfg) (s : State), ∃ u, exec (.write t c) s = .next u ∧
    u.wTex = t ∧ u.wGather = c ∧ u.wDirty = false ∧ u.rDirty = true ∧
    (match runRoutine (dispatchWrite t.csm (depthOf s.config t.cpsm) (indexWidth s.config t.psm)) s.config s.raster
        s.clut t c with
     | some clut => u.clut = clut ∧ Completed s u (.status .ok) []
     | none => u.clut = s.clut ∧
        Completed s u (.status .unsupported) [.unsupportedWrite t.csm t.cpsm t.psm]) ∧
    SameLc s u ∧ SameReadSnapshot s u ∧ SameMemo s u ∧ SameBuffers s u ∧ SameSurroundings s u ∧
    (∀ x, ∃ u', exec (.write { t with cld := x } c) s = .next u' ∧ u'.clut = u.clut ∧ u'.result = u.result) ∧
    (∃ v, exec (.writeTest t c) u = .next v ∧ Completed u v (.reload false) [])

/-- R66 to R68, R101: a format and a depth code select their entry of FMT and DEPTH, the index width follows the
format's palette size (D9 and D10 are the spec's own decisions there; NONE is said for a well-formed FMT, R7), and
the dispatch table over storage mode, depth and index width is total: every unmapped key is the NULL routine. That
D24 shares the D32 routines is the spec's own decision D11. -/
def Obligations.DispatchTableIsTotal : Prop :=
  (∀ (cfg : Config) (psm : BitVec 6) (cpsm : BitVec 4),
    cfg.fmt[psm.toNat]? = some (fmtOf cfg psm) ∧ cfg.depth[cpsm.toNat]? = some (depthOf cfg cpsm) ∧
    (indexWidth cfg psm = .i8 ↔ (fmtOf cfg psm).pal = 256) ∧
    (indexWidth cfg psm = .i4 ↔ (fmtOf cfg psm).pal = 16) ∧
    (cfg.wellFormed = true → (indexWidth cfg psm = .none ↔ (fmtOf cfg psm).pal = 0))) ∧
  ∀ (m : StorageMode) (d : Depth) (iw : IndexWidth),
    (m = .direct ∧ Is32 d ∧ iw = .i8 → dispatchWrite m d iw = .d32I8) ∧
    (m = .direct ∧ Is32 d ∧ iw = .i4 → dispatchWrite m d iw = .d32I4) ∧
    (m = .direct ∧ Is16 d ∧ iw = .i8 → dispatchWrite m d iw = .d16I8) ∧
    (m = .direct ∧ Is16 d ∧ iw = .i4 → dispatchWrite m d iw = .d16I4) ∧
    (m = .gather ∧ Is32 d ∧ iw = .i8 → dispatchWrite m d iw = .g32 256) ∧
    (m = .gather ∧ Is32 d ∧ iw = .i4 → dispatchWrite m d iw = .g32 16) ∧
    (m = .gather ∧ Is16 d ∧ iw = .i8 → dispatchWrite m d iw = .g16 256) ∧
    (m = .gather ∧ Is16 d ∧ iw = .i4 → dispatchWrite m d iw = .g16 16) ∧
    (d = .other ∨ iw = .none → dispatchWrite m d iw = .null)

/-- R102: a WRITE whose depth is OTHER or whose format is not indexed (R101, R72) writes no entry, emits one warning
event and returns UNSUPPORTED; the snapshot and the flags are still written. That the warning holds the three
dispatch fields and stands in the result is the spec's own decision D30. -/
def Obligations.UnsupportedWriteIsALoggedNoOp : Prop :=
  ∀ (t : TexCfg) (c : GatherCfg) (s : State),
    depthOf s.config t.cpsm = .other ∨ indexWidth s.config t.psm = .none →
    ∃ u, exec (.write t c) s = .next u ∧ SameClut s u ∧
      Completed s u (.status .unsupported) [.unsupportedWrite t.csm t.cpsm t.psm] ∧
      u.wDirty = false ∧ u.rDirty = true ∧ u.wTex = t ∧ u.wGather = c ∧
      SameBuffers s u ∧ SameLc s u ∧ SameReadSnapshot s u ∧ SameMemo s u ∧ SameSurroundings s u

/-- R105, R106: the permutation tables equal their bit formulas and are bijections of 0..255 (the values are the
spec's general knowledge, log 14). -/
def Obligations.PermutationsEqualTheirBitFormulas : Prop :=
  (∀ e, e < 256 →
    s32 e = e % 2 + 2 * (e / 8 % 2) + 4 * (e / 2 % 4) + 16 * (e / 32 % 4) + 64 * (e / 16 % 2) + 128 * (e / 128) ∧
    s16 e = e / 16 % 2 + 2 * (e % 2) + 4 * (e / 8 % 2) + 8 * (e / 2 % 4) + 32 * (e / 32)) ∧
  (∀ k, k < 256 → (∃ e, e < 256 ∧ s32 e = k) ∧ (∃ e, e < 256 ∧ s16 e = k)) ∧
  (∀ e e', e < 256 → e' < 256 → (s32 e = s32 e' → e = e') ∧ (s16 e = s16 e' → e = e'))

/-- R107, R110: D32_I8. ABSOLUTE fills groups CSA to 15 from the same source groups, RELATIVE from source group 0
on; both store the low half-word at e and the high half-word at e + 256, and leave every other entry (D18 is the
spec's own decision there). -/
def Obligations.Direct32Index8FillsFromTheStorageOffset : Prop :=
  ∀ (t : TexCfg) (c : GatherCfg) (s : State),
    t.csm = .direct → Is32 (depthOf s.config t.cpsm) → indexWidth s.config t.psm = .i8 →
    ∃ u, exec (.write t c) s = .next u ∧ Completed s u (.status .ok) [] ∧
      ∀ e, e < 256 →
        (16 * t.csa.toNat ≤ e →
          (s.config.t32I8Write = .absolute →
            clutAt u.clut e = (s.raster.blkRead32 t.cbp (s32 e)).extractLsb' 0 16 ∧
            clutAt u.clut (e + 256) = (s.raster.blkRead32 t.cbp (s32 e)).extractLsb' 16 16) ∧
          (s.config.t32I8Write = .relative →
            clutAt u.clut e = (s.raster.blkRead32 t.cbp (s32 (e - 16 * t.csa.toNat))).extractLsb' 0 16 ∧
            clutAt u.clut (e + 256) =
              (s.raster.blkRead32 t.cbp (s32 (e - 16 * t.csa.toNat))).extractLsb' 16 16)) ∧
        (e < 16 * t.csa.toNat →
          clutAt u.clut e = clutAt s.clut e ∧ clutAt u.clut (e + 256) = clutAt s.clut (e + 256))

/-- R108, R110: D32_I4 loads 16 colours at 16 x CSA, indices mod 512 (D20 is the spec's own decision there). -/
def Obligations.Direct32Index4LoadsSixteenColours : Prop :=
  ∀ (t : TexCfg) (c : GatherCfg) (s : State),
    t.csm = .direct → Is32 (depthOf s.config t.cpsm) → indexWidth s.config t.psm = .i4 →
    ∃ u, exec (.write t c) s = .next u ∧ Completed s u (.status .ok) [] ∧
      (∀ j, j < 16 →
        clutAt u.clut (16 * t.csa.toNat + j) = (s.raster.blkRead32 t.cbp (s32 j)).extractLsb' 0 16 ∧
        clutAt u.clut (16 * t.csa.toNat + j + 256) = (s.raster.blkRead32 t.cbp (s32 j)).extractLsb' 16 16) ∧
      (∀ e, e < 512 → (∀ j, j < 16 → (16 * t.csa.toNat + j) % 512 ≠ e ∧ (16 * t.csa.toNat + j + 256) % 512 ≠ e) →
        clutAt u.clut e = clutAt s.clut e)

/-- R109, R103: D16_I8 loads 256 entries from 16 x CSA on, wrapping past entry 511, from the view of its depth (D19
and D38 are the spec's own decisions there). -/
def Obligations.Direct16Index8LoadsAndWraps : Prop :=
  ∀ (t : TexCfg) (c : GatherCfg) (s : State),
    t.csm = .direct → Is16 (depthOf s.config t.cpsm) → indexWidth s.config t.psm = .i8 →
    ∃ u, exec (.write t c) s = .next u ∧ Completed s u (.status .ok) [] ∧
      (∀ k, k < 256 →
        (depthOf s.config t.cpsm = .d16 →
          clutAt u.clut (16 * t.csa.toNat + k) = s.raster.blkRead16 t.cbp (s16 k)) ∧
        (depthOf s.config t.cpsm = .d16s →
          clutAt u.clut (16 * t.csa.toNat + k) = s.raster.blkRead16S t.cbp (s16 k))) ∧
      (∀ e, e < 512 → (∀ k, k < 256 → (16 * t.csa.toNat + k) % 512 ≠ e) → clutAt u.clut e = clutAt s.clut e)

/-- R111, R103: D16_I4 loads 16 entries at 16 x CSA, from the view of its depth (D19 and D38 are the spec's own
decisions there). -/
def Obligations.Direct16Index4LoadsSixteenEntries : Prop :=
  ∀ (t : TexCfg) (c : GatherCfg) (s : State),
    t.csm = .direct → Is16 (depthOf s.config t.cpsm) → indexWidth s.config t.psm = .i4 →
    ∃ u, exec (.write t c) s = .next u ∧ Completed s u (.status .ok) [] ∧
      (∀ j, j < 16 →
        (depthOf s.config t.cpsm = .d16 →
          clutAt u.clut (16 * t.csa.toNat + j) = s.raster.blkRead16 t.cbp (s16 j)) ∧
        (depthOf s.config t.cpsm = .d16s →
          clutAt u.clut (16 * t.csa.toNat + j) = s.raster.blkRead16S t.cbp (s16 j))) ∧
      (∀ e, e < 512 → (e < 16 * t.csa.toNat ∨ 16 * t.csa.toNat + 16 ≤ e) → clutAt u.clut e = clutAt s.clut e)

/-- R112, R113, R110: G32 gathers n colours at (16 x COU + i, COV) through the resolver, from base 16 x (CSA mod 16)
or 0 (D21 and D22 are the spec's own decisions there). -/
def Obligations.Gather32SplitsIntoTwoPlanes : Prop :=
  ∀ (t : TexCfg) (c : GatherCfg) (s : State) (n base : Nat),
    t.csm = .gather → Is32 (depthOf s.config t.cpsm) →
    (indexWidth s.config t.psm = .i8 ∧ n = 256 ∨ indexWidth s.config t.psm = .i4 ∧ n = 16) →
    (s.config.gather32Base = .mod16 ∧ base = 16 * (t.csa.toNat % 16) ∨ s.config.gather32Base = .zero ∧ base = 0) →
    ∃ u, exec (.write t c) s = .next u ∧ Completed s u (.status .ok) [] ∧
      (∀ i, i < n →
        let x := s.raster.memRead32 (s.raster.resolve t.cbp c.cbw t.cpsm (16 * c.cou.toNat + i) c.cov)
        clutAt u.clut (base + i) = x.extractLsb' 0 16 ∧ clutAt u.clut (base + i + 256) = x.extractLsb' 16 16) ∧
      (∀ e, e < 512 → (∀ i, i < n → (base + i) % 512 ≠ e ∧ (base + i + 256) % 512 ≠ e) →
        clutAt u.clut e = clutAt s.clut e)

/-- R112, R114: G16 gathers n entries to 16 x CSA on, wrapping past entry 511 (D19 and D21 are the spec's own
decisions there). -/
def Obligations.Gather16CopiesAtTheStorageOffset : Prop :=
  ∀ (t : TexCfg) (c : GatherCfg) (s : State) (n : Nat),
    t.csm = .gather → Is16 (depthOf s.config t.cpsm) →
    (indexWidth s.config t.psm = .i8 ∧ n = 256 ∨ indexWidth s.config t.psm = .i4 ∧ n = 16) →
    ∃ u, exec (.write t c) s = .next u ∧ Completed s u (.status .ok) [] ∧
      (∀ i, i < n → clutAt u.clut (16 * t.csa.toNat + i) =
        s.raster.memRead16 (s.raster.resolve t.cbp c.cbw t.cpsm (16 * c.cou.toNat + i) c.cov)) ∧
      (∀ e, e < 512 → (∀ i, i < n → (16 * t.csa.toNat + i) % 512 ≠ e) → clutAt u.clut e = clutAt s.clut e)

/-- R104: LOAD is WRITE_TEST and, when that returns 1, WRITE with the same operands, as one command. -/
def Obligations.LoadIsWriteTestThenWrite : Prop :=
  ∀ (t : TexCfg) (c : GatherCfg) (s : State), ∃ u d, exec (.writeTest t c) s = .next u ∧
    Completed s u (.reload d) [] ∧
    (d = false → exec (.load t c) s =
      .next { u with result := some { value := .load false none, warnings := [] } }) ∧
    (d = true → ∃ v st ws, exec (.write t c) u = .next v ∧ Completed u v (.status st) ws ∧
      exec (.load t c) s = .next { v with
        result := some { value := .load true (some st), warnings := ws }, cmdIndex := s.cmdIndex + 1 })

/-- R44, R83: a direct WRITE depends on the raster image only through the blocks of its footprint, for a format
whose 4-bit depth means 4-bit indices. -/
def Obligations.DirectWriteReadsOnlyItsFootprint : Prop :=
  ∀ (t : TexCfg) (c : GatherCfg) (s : State) (r : Raster), t.csm = .direct →
    ((fmtOf s.config t.psm).bpp = .b4 → (fmtOf s.config t.psm).pal ≠ 256) →
    AgreeOnBlocks s.raster r t.cbp (footprint s.config t) →
    ∃ u v, exec (.write t c) s = .next u ∧ exec (.write t c) { s with raster := r } = .next v ∧ v.clut = u.clut

-- READ and the expansion paths (spec/42_read_expand.md).

/-- R131: what the read dirty test reports (D14 is the spec's own decision there). -/
def Obligations.ReadDirtyTestComparesTheSnapshot : Prop :=
  ∀ (s : State) (t : TexCfg) (a : AlphaCfg),
    readDirty s t a = true ↔
      (s.rDirty = true ∨ t.csa ≠ s.rTex.csa ∨ t.csm ≠ s.rTex.csm ∨ t.cpsm ≠ s.rTex.cpsm ∨ t.cbp ≠ s.rTex.cbp ∨
        (fmtOf s.config t.psm).bpp ≠ (fmtOf s.config s.rTex.psm).bpp ∨
        (depthOf s.config t.cpsm = .d24 ∧ (a.aem ≠ s.rAlpha.aem ∨ a.ta0 ≠ s.rAlpha.ta0)) ∨
        ((depthOf s.config t.cpsm = .d16 ∨
            (depthOf s.config t.cpsm = .d16s ∧ s.config.read16sAlphaCmp = true)) ∧
          (a.ta0 ≠ s.rAlpha.ta0 ∨ a.ta1 ≠ s.rAlpha.ta1 ∨ a.aem ≠ s.rAlpha.aem)))

/-- R130, R131: a READ hit refreshes the Read Snapshot, returns the buffers as they are with recomputed 0, and
changes nothing else (the recomputed bit is the spec's own decision D36). -/
def Obligations.ReadHitRefreshesTheSnapshotOnly : Prop :=
  ∀ (t : TexCfg) (a : AlphaCfg) (s : State), readDirty s t a = false →
    ∃ u, exec (.read t a) s = .next u ∧ Completed s u (.palette s.buf32 s.buf64 false) [] ∧
      u.rTex = t ∧ u.rAlpha = a ∧ u.rDirty = s.rDirty ∧ SameMemo s u ∧ SameBuffers s u ∧ SameClut s u ∧
      SameWriteSnapshot s u ∧ u.wDirty = s.wDirty ∧ SameLc s u ∧ SameSurroundings s u

/-- R130: a READ miss records the snapshot, clears R.dirty, sets R.adirty, returns the new buffers with recomputed
1, and never writes CLUT, the Write State Tracker, LC or the memo's pair. -/
def Obligations.ReadMissRecordsTheSnapshot : Prop :=
  ∀ (t : TexCfg) (a : AlphaCfg) (s : State), readDirty s t a = true →
    ∃ u, exec (.read t a) s = .next u ∧ Completed s u (.palette u.buf32 u.buf64 true) [] ∧
      u.rTex = t ∧ u.rAlpha = a ∧ u.rDirty = false ∧ u.rAlphaDirty = true ∧ u.rAmin = s.rAmin ∧
      u.rAmax = s.rAmax ∧ SameClut s u ∧ SameWriteSnapshot s u ∧ u.wDirty = s.wDirty ∧ SameLc s u ∧
      SameSurroundings s u

/-- R133, R134: E32_I8 copies 256 colours by groups of 16, a group past the last one clamped to group 15, and does
not write BUF64 (D25 is the spec's own decision there). -/
def Obligations.Expand32Index8ClampsPerGroup : Prop :=
  ∀ (t : TexCfg) (a : AlphaCfg) (s : State), readDirty s t a = true → Is32 (depthOf s.config t.cpsm) →
    indexWidth s.config t.psm = .i8 →
    ∃ u, exec (.read t a) s = .next u ∧ u.buf64 = s.buf64 ∧
      ∀ g j, g < 16 → j < 16 →
        let e := if t.csa.toNat + g ≤ 15 then 16 * (t.csa.toNat + g) + j else 240 + j
        buf32At u.buf32 (16 * g + j) =
          (clutAt s.clut e).setWidth 32 ||| (clutAt s.clut (e + 256)).setWidth 32 <<< 16

/-- R133, R135, R145: E32_I4 rewrites 16 entries and replicates them into BUF64; BUF32[16..255] keep their values
(D20 and D26 are the spec's own decisions there). -/
def Obligations.Expand32Index4RewritesSixteenAndReplicates : Prop :=
  ∀ (t : TexCfg) (a : AlphaCfg) (s : State), readDirty s t a = true → Is32 (depthOf s.config t.cpsm) →
    indexWidth s.config t.psm = .i4 →
    ∃ u, exec (.read t a) s = .next u ∧
      (∀ j, j < 16 → buf32At u.buf32 j = (clutAt s.clut (16 * t.csa.toNat + j)).setWidth 32 |||
        (clutAt s.clut (16 * t.csa.toNat + j + 256)).setWidth 32 <<< 16) ∧
      (∀ k, 16 ≤ k → k < 256 → buf32At u.buf32 k = buf32At s.buf32 k) ∧
      (∀ k, k < 256 → buf64At u.buf64 k =
        (buf32At u.buf32 (k % 16)).setWidth 64 ||| (buf32At u.buf32 (k / 16)).setWidth 64 <<< 32)

/-- R136: E16_I8 widens 256 entries from 16 x CSA on, wrapping past entry 511, and does not write BUF64 (D19 is the
spec's own decision there). -/
def Obligations.Expand16Index8WidensAllEntries : Prop :=
  ∀ (t : TexCfg) (a : AlphaCfg) (s : State), readDirty s t a = true → Is16 (depthOf s.config t.cpsm) →
    indexWidth s.config t.psm = .i8 →
    ∃ u, exec (.read t a) s = .next u ∧ u.buf64 = s.buf64 ∧
      ∀ k, k < 256 → buf32At u.buf32 k = expand16 (clutAt s.clut (16 * t.csa.toNat + k)) a

/-- R137, R145: E16_I4 widens 16 entries from 16 x CSA on and replicates them into BUF64; BUF32[16..255] keep their
values (the base is the spec's own decision D19, the layout of BUF64 its decision D26). -/
def Obligations.Expand16Index4WidensAndReplicates : Prop :=
  ∀ (t : TexCfg) (a : AlphaCfg) (s : State), readDirty s t a = true → Is16 (depthOf s.config t.cpsm) →
    indexWidth s.config t.psm = .i4 →
    ∃ u, exec (.read t a) s = .next u ∧
      (∀ j, j < 16 → buf32At u.buf32 j = expand16 (clutAt s.clut (16 * t.csa.toNat + j)) a) ∧
      (∀ k, 16 ≤ k → k < 256 → buf32At u.buf32 k = buf32At s.buf32 k) ∧
      (∀ k, k < 256 → buf64At u.buf64 k =
        (buf32At u.buf32 (k % 16)).setWidth 64 ||| (buf32At u.buf32 (k / 16)).setWidth 64 <<< 32)

/-- R138: a READ miss that selects no path writes no buffer and emits no warning (D27 is the spec's own decision
there). -/
def Obligations.ReadMissWithoutPathKeepsTheBuffers : Prop :=
  ∀ (t : TexCfg) (a : AlphaCfg) (s : State), readDirty s t a = true →
    depthOf s.config t.cpsm = .other ∨ indexWidth s.config t.psm = .none →
    ∃ u, exec (.read t a) s = .next u ∧ SameBuffers s u ∧ Completed s u (.palette s.buf32 s.buf64 true) [] ∧
      u.rTex = t ∧ u.rAlpha = a ∧ u.rDirty = false ∧ u.rAlphaDirty = true ∧
      exec .alphaMinMax u = .fault .alphaPal

/-- R140: EXPAND16, byte by byte: alpha in byte 3, the 5-bit field k in bits 7:3 of byte k, low 3 bits zero;
exclusion overrides the selected alpha for a zero entry (D24 is the spec's own decision there). -/
def Obligations.ExpandedEntryLayout : Prop :=
  ∀ (v : Half) (a : AlphaCfg),
    (a.aem = true ∧ v = 0 → (expand16 v a).extractLsb' 24 8 = 0) ∧
    (¬ (a.aem = true ∧ v = 0) → v.getLsbD 15 = true → (expand16 v a).extractLsb' 24 8 = a.ta1) ∧
    (¬ (a.aem = true ∧ v = 0) → v.getLsbD 15 = false → (expand16 v a).extractLsb' 24 8 = a.ta0) ∧
    (expand16 v a).extractLsb' 19 5 = v.extractLsb' 10 5 ∧ (expand16 v a).extractLsb' 16 3 = 0 ∧
    (expand16 v a).extractLsb' 11 5 = v.extractLsb' 5 5 ∧ (expand16 v a).extractLsb' 8 3 = 0 ∧
    (expand16 v a).extractLsb' 3 5 = v.extractLsb' 0 5 ∧ (expand16 v a).extractLsb' 0 3 = 0

/-- R110, R133, R41: STORE32 writes the low and the high half-word, indices mod 512, and no other entry; PAIR32
inverts it. -/
def Obligations.PairInvertsStore : Prop :=
  ∀ (clut : Vector Half 512) (e : Nat) (x : Word),
    pair32 (store32 clut e x) e = x ∧
    clutAt (store32 clut e x) (e + 512) = x.extractLsb' 0 16 ∧
    clutAt (store32 clut e x) (e + 256) = x.extractLsb' 16 16 ∧
    ∀ y, y % 512 ≠ e % 512 → y % 512 ≠ (e + 256) % 512 → clutAt (store32 clut e x) y = clutAt clut y

/-- R116: a 32-bit 8-bit-index direct palette written and read at CSA = 0 returns the source elements, each at its
permuted place. -/
def Obligations.WriteThenReadReturnsTheColours : Prop :=
  ∀ (t : TexCfg) (c : GatherCfg) (a : AlphaCfg) (s : State),
    t.csm = .direct → Is32 (depthOf s.config t.cpsm) → indexWidth s.config t.psm = .i8 → t.csa = 0 →
    ∃ u v, exec (.write t c) s = .next u ∧ exec (.read t a) u = .next v ∧
      ∀ e, e < 256 → buf32At v.buf32 e = s.raster.blkRead32 t.cbp (s32 e)

/-- R108, R135: a 32-bit 4-bit-index direct palette written and read at the same CSA returns the written colours,
for every CSA, the wrapping ones too (D20 is the spec's own decision there). -/
def Obligations.WriteThenReadFourBitIndexAtEveryOffset : Prop :=
  ∀ (t : TexCfg) (c : GatherCfg) (a : AlphaCfg) (s : State),
    t.csm = .direct → Is32 (depthOf s.config t.cpsm) → indexWidth s.config t.psm = .i4 →
    ∃ u v, exec (.write t c) s = .next u ∧ exec (.read t a) u = .next v ∧
      ∀ j, j < 16 → buf32At v.buf32 j = s.raster.blkRead32 t.cbp (s32 j)

/-- R146 (b), R197: after a READ, the same READ with a format of equal bit depth is a hit that keeps both buffers and
moves the snapshot's format, whatever its index width. -/
def Obligations.EqualBitDepthSwitchIsAHit : Prop :=
  ∀ (t : TexCfg) (a : AlphaCfg) (p : BitVec 6) (x : BitVec 3) (s : State),
    (fmtOf s.config p).bpp = (fmtOf s.config t.psm).bpp →
    ∃ u v, exec (.read t a) s = .next u ∧ exec (.read { t with psm := p, cld := x } a) u = .next v ∧
      Completed u v (.palette u.buf32 u.buf64 false) [] ∧ SameBuffers u v ∧ v.rTex.psm = p

-- ALPHA_MINMAX (spec/43_alpha_range.md).

/-- R160, R172, R174: ALPHA_MINMAX faults F_ALPHA_PRECOND while R.dirty = 1, and else F_ALPHA_PAL when the read
snapshot selects no path (the faults are the spec's own decisions D28 and D29; log 15). -/
def Obligations.AlphaQueryFaultsInOrder : Prop :=
  ∀ s : State,
    (s.rDirty = true → exec .alphaMinMax s = .fault .alphaPrecond) ∧
    (s.rDirty = false →
      (depthOf s.config s.rTex.cpsm = .other ∨
        ((fmtOf s.config s.rTex.psm).pal ≠ 16 ∧ (fmtOf s.config s.rTex.psm).pal ≠ 256)) →
      exec .alphaMinMax s = .fault .alphaPal)

/-- R161: for D24 with alpha exclusion off the pair is (TA0, TA0) of the read snapshot, whatever the buffer and the
memo hold, and only the result and the command index change; a READ hit cannot change the fields it rests on. -/
def Obligations.AlphaFastPathReturnsTheFirstAlphaByte : Prop :=
  (∀ s : State, AlphaQueryValid s → depthOf s.config s.rTex.cpsm = .d24 → s.rAlpha.aem = false →
    exec .alphaMinMax s = .next { s with
      result := some { value := .alphaRange s.rAlpha.ta0 s.rAlpha.ta0, warnings := [] },
      cmdIndex := s.cmdIndex + 1 }) ∧
  (∀ (s : State) (t : TexCfg) (a : AlphaCfg), depthOf s.config s.rTex.cpsm = .d24 → readDirty s t a = false →
    ∃ u, exec (.read t a) s = .next u ∧ u.rTex.cpsm = s.rTex.cpsm ∧ u.rAlpha.aem = s.rAlpha.aem ∧
      u.rAlpha.ta0 = s.rAlpha.ta0)

/-- R160, R162: off the fast path a stale memo is recomputed: the pair bounds the alpha byte of every scanned entry,
both ends are alphas of scanned entries, and the memo and its flag are all that changes (D37 is the spec's own
decision there). -/
def Obligations.AlphaScanReturnsTheExactRange : Prop :=
  ∀ s : State, AlphaQueryValid s → ¬ (depthOf s.config s.rTex.cpsm = .d24 ∧ s.rAlpha.aem = false) →
    s.rAlphaDirty = true →
    ∃ u, exec .alphaMinMax s = .next u ∧ Completed s u (.alphaRange u.rAmin u.rAmax) [] ∧ u.rAlphaDirty = false ∧
      (let n := (fmtOf s.config s.rTex.psm).pal
       let alpha := fun k => ((buf32At s.buf32 k).extractLsb' 24 8).toNat
       (∀ k, k < n → u.rAmin.toNat ≤ alpha k ∧ alpha k ≤ u.rAmax.toNat) ∧
       (∃ k, k < n ∧ alpha k = u.rAmin.toNat) ∧ (∃ k, k < n ∧ alpha k = u.rAmax.toNat)) ∧
      SameClut s u ∧ SameBuffers s u ∧ SameWriteSnapshot s u ∧ u.wDirty = s.wDirty ∧ SameLc s u ∧
      SameReadSnapshot s u ∧ u.rDirty = s.rDirty ∧ SameSurroundings s u

/-- R160 (c): off the fast path a fresh memo is returned without a scan, and only the result and the command index
change; so a second ALPHA_MINMAX returns what the first one did. -/
def Obligations.AlphaMemoIsReturnedWithoutAScan : Prop :=
  ∀ s : State, AlphaQueryValid s → ¬ (depthOf s.config s.rTex.cpsm = .d24 ∧ s.rAlpha.aem = false) →
    (s.rAlphaDirty = false → exec .alphaMinMax s = .next { s with
      result := some { value := .alphaRange s.rAmin s.rAmax, warnings := [] }, cmdIndex := s.cmdIndex + 1 }) ∧
    ∃ u v, exec .alphaMinMax s = .next u ∧ exec .alphaMinMax u = .next v ∧ v.result = u.result ∧
      SameMemo u v

-- The whole machine.

/-- R46: no command writes raster memory: every byte of every element space and the resolver are as before. -/
def Obligations.NoCommandWritesRasterMemory : Prop :=
  ∀ (i : Instr) (s t : State), exec i s = .next t →
    (∀ space address, t.raster.readByte space address = s.raster.readByte space address) ∧
    (∀ key, t.raster.readResolver key = s.raster.readResolver key)

/-- R26, R34, R35: each state element has only its writers: CLUT only WRITE and LOAD; W.dirty is set only by the three
INVALIDATE commands and cleared only by WRITE and LOAD; the buffers and the Read Snapshot only READ; R.dirty is set
only by WRITE and LOAD and cleared only by READ; LC only WRITE_TEST and LOAD; the memo's pair only ALPHA_MINMAX, its
flag set only by READ; a WRITE sets R.dirty; no command changes the parameters, the queue or the run marks. -/
def Obligations.StateElementsHaveOnlyTheirWriters : Prop :=
  ∀ (i : Instr) (s t : State), exec i s = .next t →
    ((∀ x c, i ≠ .write x c ∧ i ≠ .load x c) → SameClut s t ∧ (s.wDirty = true → t.wDirty = true)) ∧
    (i ≠ .invalidate → (∀ b, i ≠ .invalidateBlock b) → (∀ a b, i ≠ .invalidateRange a b) →
      t.wDirty = true → s.wDirty = true) ∧
    ((∀ x c, i ≠ .write x c ∧ i ≠ .load x c ∧ i ≠ .writeTest x c) → SameWriteSnapshot s t) ∧
    ((∀ x c, i ≠ .load x c ∧ i ≠ .writeTest x c) → SameLc s t) ∧
    ((∀ x a, i ≠ .read x a) → SameBuffers s t ∧ SameReadSnapshot s t ∧ (s.rDirty = true → t.rDirty = true)) ∧
    ((∀ x c, i ≠ .write x c ∧ i ≠ .load x c) → t.rDirty = true → s.rDirty = true) ∧
    (∀ x c, i = .write x c → t.rDirty = true ∧ t.wDirty = false) ∧
    ((∀ x a, i ≠ .read x a) → t.rAlphaDirty = true → s.rAlphaDirty = true) ∧
    (i ≠ .alphaMinMax → t.rAmin = s.rAmin ∧ t.rAmax = s.rAmax ∧ (s.rAlphaDirty = true → t.rAlphaDirty = true)) ∧
    SameSurroundings s t

/-- R53: a command other than WRITE and LOAD does the same, whatever raster memory holds: a change of it is seen
only by a later WRITE. -/
def Obligations.RasterMemoryIsSeenOnlyByWrites : Prop :=
  ∀ (i : Instr) (s : State) (r : Raster), (∀ x c, i ≠ .write x c ∧ i ≠ .load x c) →
    (∀ t, exec i s = .next t → exec i { s with raster := r } = .next { t with raster := r }) ∧
    (∀ f, exec i s = .fault f → exec i { s with raster := r } = .fault f)

/-- R191: the flags, the marks and the command index after reset, for every choice of what R191 leaves open; and
what follows from them: the first WRITE_TEST of an indexed format with code 1, 2 or 3 returns 1, the first READ
misses, and ALPHA_MINMAX faults. The reset values are the spec's own decisions D5, D33 and D34. -/
def Obligations.ResetLeavesTheTrackersDirty : Prop :=
  ∀ (cfg : Config) (init : Init) (r : Raster) (p : List HostEvent),
    let s := State.resetWith cfg init r p
    s.wDirty = true ∧ s.rDirty = true ∧ s.rAlphaDirty = true ∧ s.faulted = false ∧ s.refused = false ∧
    s.cmdIndex = 0 ∧ s.clut = init.clut ∧ s.buf32 = init.buf32 ∧ s.buf64 = init.buf64 ∧
    s.lc0 = init.lc0 ∧ s.lc1 = init.lc1 ∧
    (∀ t c, (fmtOf cfg t.psm).pal ≠ 0 → (t.cld = 1 ∨ t.cld = 2 ∨ t.cld = 3) →
      ∃ u, exec (.writeTest t c) s = .next u ∧ Completed s u (.reload true) []) ∧
    (∀ t a, ∃ u, exec (.read t a) s = .next u ∧ Completed s u (.palette u.buf32 u.buf64 true) []) ∧
    exec .alphaMinMax s = .fault .alphaPrecond

/-- Every step keeps the machine's invariant: the run goes on with its parameters well formed, the raster image
keeps its canonical form (the model's, log 2), and while the memo is not stale it is the exact range of a scan
of the current buffer (R163 (d)). -/
def Obligations.EveryStepKeepsTheInvariant : Prop :=
  ∀ s t : State, Inv s → step s = .next t → Inv t

/-- The invariant holds after reset, for every well-formed configuration, every open reset content and every
canonical raster image; State.reset is one of these. No expansion is current there, so none is stale. -/
def Obligations.ResetMeetsTheInvariant : Prop :=
  (∀ (cfg : Config) (init : Init) (r : Raster) (p : List HostEvent), cfg.wellFormed = true → r.wf →
    Inv (State.resetWith cfg init r p)) ∧ Inv State.reset ∧
  (∀ (cfg : Config) (init : Init) (r : Raster) (p : List HostEvent), ExpansionIsFresh (State.resetWith cfg init r p))

/-- Cache coherence, R34 and R146 (d): every step keeps it that, while R.dirty = 0, the buffers hold what a fresh
expansion of CLUT under the Read Snapshot gives, for a format whose bit depth fixes its palette and a depth whose
alpha fields are compared. -/
def Obligations.EveryStepKeepsTheExpansionFresh : Prop :=
  ∀ s t : State, ExpansionIsFresh s → step s = .next t → ExpansionIsFresh t

/-- R33: the snapshots while their dirty flag is set, and the memo while it is stale, change no result: from two
states that differ only there, one step gives the same fault, the same refusal, or next states that differ only
there, with the same result; and resets that differ in INIT_WSNAP, INIT_RSNAP, INIT_AMIN and INIT_AMAX are such
states. -/
def Obligations.UnobservableContentsChangeNoResult : Prop :=
  (∀ s t : State, SameButUnobservable s t → OutcomesAgree SameButUnobservable (step s) (step t)) ∧
  (∀ (cfg : Config) (i j : Init) (r : Raster) (p : List HostEvent),
    i.clut = j.clut → i.buf32 = j.buf32 → i.buf64 = j.buf64 → i.lc0 = j.lc0 → i.lc1 = j.lc1 →
    SameButUnobservable (State.resetWith cfg i r p) (State.resetWith cfg j r p))
end

