-- ==== Sys2Proof/Laws/Clut.lean ====
section
/-! SUPPORT. The Palette Store runs equal the spec's sequential loops (spec/41_write_codecs.md R107 to R115),
and what they and the buffer rewrites leave to be read. -/
namespace Sys2Proof.Machine

@[simp] theorem clutAt_mod (c : Vector Half 512) (e : Nat) : clutAt c (e % 512) = clutAt c e := by
  simp [clutAt]

@[simp] theorem clutAt_add_512 (c : Vector Half 512) (e : Nat) : clutAt c (e + 512) = clutAt c e := by
  simp [clutAt]

theorem clut_ext {c d : Vector Half 512} (h : ∀ e, clutAt c e = clutAt d e) : c = d := by
  apply Vector.ext
  intro i hi
  have := h i
  simpa [clutAt, Nat.mod_eq_of_lt hi] using this

theorem clutAt_storeHalf (c : Vector Half 512) (e x : Nat) (v : Half) :
    clutAt (storeHalf c e v) x = if x % 512 = e % 512 then v else clutAt c x := by
  by_cases h : x % 512 = e % 512
  · simp [clutAt, storeHalf, h]
  · simp [clutAt, storeHalf, h, Ne.symm h]

theorem clutAt_store32 (c : Vector Half 512) (e y : Nat) (x : Word) :
    clutAt (store32 c e x) y =
      if y % 512 = (e + 256) % 512 then hi16 x else if y % 512 = e % 512 then lo16 x else clutAt c y := by
  simp only [store32, clutAt_storeHalf]

/-- What a run leaves: entry e is entry d of the run, d its distance from the base, when d is in the run. -/
theorem clutAt_fillClut (c : Vector Half 512) (base n : Nat) (f : Nat → Half) (e : Nat) :
    clutAt (fillClut c base n f) e =
      if (e % 512 + (512 - base % 512)) % 512 < n then f ((e % 512 + (512 - base % 512)) % 512) else clutAt c e := by
  simp [clutAt, fillClut]

/-- Entry k of a run is at base + k. -/
theorem clutAt_fillClut_of_lt (c : Vector Half 512) (base n : Nat) (f : Nat → Half) (k : Nat) (hk : k < n)
    (hn : n ≤ 512) : clutAt (fillClut c base n f) (base + k) = f k := by
  have : ((base + k) % 512 + (512 - base % 512)) % 512 = k := by omega
  rw [clutAt_fillClut, this, if_pos hk]

/-- An entry that no member of the run names keeps its value. -/
theorem clutAt_fillClut_of_forall_ne (c : Vector Half 512) (base n : Nat) (f : Nat → Half) (e : Nat)
    (h : ∀ k < n, (base + k) % 512 ≠ e % 512) : clutAt (fillClut c base n f) e = clutAt c e := by
  rw [clutAt_fillClut, if_neg]
  intro hd
  exact h _ hd (by omega)

/-- Entry k of a 32-bit run: the low half-word at base + k, the high half-word 256 further on. -/
theorem clutAt_fillClut32_lo (c : Vector Half 512) (base n : Nat) (f : Nat → Word) (k : Nat) (hk : k < n)
    (hn : n ≤ 256) : clutAt (fillClut32 c base n f) (base + k) = lo16 (f k) := by
  rw [fillClut32, clutAt_fillClut_of_forall_ne, clutAt_fillClut_of_lt _ _ _ _ _ hk (by omega)]
  intro j hj
  omega

theorem clutAt_fillClut32_hi (c : Vector Half 512) (base n : Nat) (f : Nat → Word) (k : Nat) (hk : k < n)
    (hn : n ≤ 256) : clutAt (fillClut32 c base n f) (base + k + 256) = hi16 (f k) := by
  rw [show base + k + 256 = base + 256 + k by omega, fillClut32, clutAt_fillClut_of_lt _ _ _ _ _ hk (by omega)]

theorem clutAt_fillClut32_of_forall_ne (c : Vector Half 512) (base n : Nat) (f : Nat → Word) (e : Nat)
    (h : ∀ k < n, (base + k) % 512 ≠ e % 512 ∧ (base + k + 256) % 512 ≠ e % 512) :
    clutAt (fillClut32 c base n f) e = clutAt c e := by
  rw [fillClut32, clutAt_fillClut_of_forall_ne, clutAt_fillClut_of_forall_ne]
  · exact fun k hk => (h k hk).1
  · intro k hk
    have := (h k hk).2
    omega

/-- The spec's loop "for k in 0 .. n-1: CLUT[base + k] <- f k", in its order. -/
def storeLoop (c : Vector Half 512) (base : Nat) (f : Nat → Half) : Nat → Vector Half 512
  | 0 => c
  | n + 1 => storeHalf (storeLoop c base f n) (base + n) (f n)

/-- The spec's loop "for k in 0 .. n-1: STORE32(base + k, f k)", in its order. -/
def storeLoop32 (c : Vector Half 512) (base : Nat) (f : Nat → Word) : Nat → Vector Half 512
  | 0 => c
  | n + 1 => store32 (storeLoop32 c base f n) (base + n) (f n)

/-- A run is the spec's loop (log 13). -/
theorem fillClut_eq_loop (c : Vector Half 512) (base n : Nat) (f : Nat → Half) (hn : n ≤ 512) :
    fillClut c base n f = storeLoop c base f n := by
  induction n with
  | zero => exact clut_ext fun e => by simp [clutAt_fillClut, storeLoop]
  | succ n ih =>
    refine clut_ext fun e => ?_
    rw [storeLoop, clutAt_storeHalf, ← ih (by omega), clutAt_fillClut, clutAt_fillClut]
    by_cases he : e % 512 = (base + n) % 512
    · have hd : (e % 512 + (512 - base % 512)) % 512 = n := by omega
      rw [if_pos he, hd, if_pos (by omega)]
    · have hd : (e % 512 + (512 - base % 512)) % 512 ≠ n := by omega
      rw [if_neg he]
      by_cases hlt : (e % 512 + (512 - base % 512)) % 512 < n
      · rw [if_pos (by omega), if_pos hlt]
      · rw [if_neg (by omega), if_neg hlt]

/-- A 32-bit run is the spec's loop of STORE32 (log 13). -/
theorem fillClut32_eq_loop (c : Vector Half 512) (base n : Nat) (f : Nat → Word) (hn : n ≤ 256) :
    fillClut32 c base n f = storeLoop32 c base f n := by
  induction n with
  | zero => exact clut_ext fun e => by simp [fillClut32, clutAt_fillClut, storeLoop32]
  | succ n ih =>
    refine clut_ext fun e => ?_
    rw [storeLoop32, clutAt_store32, ← ih (by omega)]
    by_cases hhi : e % 512 = (base + n + 256) % 512
    · rw [if_pos hhi, ← clutAt_mod, hhi, clutAt_mod, clutAt_fillClut32_hi _ _ _ _ _ (by omega) hn]
    · rw [if_neg hhi]
      by_cases hlo : e % 512 = (base + n) % 512
      · rw [if_pos hlo, ← clutAt_mod, hlo, clutAt_mod, clutAt_fillClut32_lo _ _ _ _ _ (by omega) hn]
      · rw [if_neg hlo, fillClut32, fillClut32, clutAt_fillClut, clutAt_fillClut, clutAt_fillClut, clutAt_fillClut]
        have h1 : (e % 512 + (512 - (base + 256) % 512)) % 512 ≠ n := by omega
        have h2 : (e % 512 + (512 - base % 512)) % 512 ≠ n := by omega
        have h3 : ((e % 512 + (512 - (base + 256) % 512)) % 512 < n + 1) =
            ((e % 512 + (512 - (base + 256) % 512)) % 512 < n) := by apply propext; omega
        have h4 : ((e % 512 + (512 - base % 512)) % 512 < n + 1) = ((e % 512 + (512 - base % 512)) % 512 < n) := by
          apply propext; omega
        simp only [h3, h4]

/-- The fill of a buffer's first n entries. -/
theorem buf32At_rewrite (b : Vector Word 256) (n : Nat) (f : Nat → Word) (k : Nat) (hk : k < 256) :
    buf32At (rewriteBuf32 b n f) k = if k < n then f k else buf32At b k := by
  simp [buf32At, rewriteBuf32, Nat.mod_eq_of_lt hk]

theorem buf64At_replicate64 (b : Vector Word 256) (k : Nat) (hk : k < 256) :
    buf64At (replicate64 b) k = (buf32At b (k % 16)).setWidth 64 ||| (buf32At b (k / 16)).setWidth 64 <<< 32 := by
  have h1 : k &&& 15 = k % 16 := Nat.and_two_pow_sub_one_eq_mod k 4
  have h2 : k >>> 4 = k / 16 := Nat.shiftRight_eq_div_pow k 4
  simp [buf64At, replicate64, Nat.mod_eq_of_lt hk, h1, h2]

/-- The two half-words of a colour put together again (42_read_expand.md R133). -/
theorem pair_lo16_hi16 (x : Word) : (lo16 x).setWidth 32 ||| (hi16 x).setWidth 32 <<< 16 = x := by
  ext i hi
  simp only [lo16, hi16, BitVec.getElem_or, BitVec.getElem_setWidth, BitVec.getElem_shiftLeft,
    BitVec.getLsbD_extractLsb']
  by_cases h : i < 16
  · simp [h, hi]
  · simp [h, show i - 16 < 16 by omega, show 16 + (i - 16) = i by omega, hi]

/-- PAIR32 of a position whose half-words are those of x is x. -/
theorem pair32_eq (c : Vector Half 512) (e : Nat) (x : Word) (hlo : clutAt c e = lo16 x)
    (hhi : clutAt c (e + 256) = hi16 x) : pair32 c e = x := by
  rw [pair32, hlo, hhi, pair_lo16_hi16]

end Sys2Proof.Machine
end

