-- ==== Sys2Proof/Laws/Memory.lean ====
section
/-! SUPPORT. The sparse form: what a write leaves to be read, and that every operation keeps it canonical. -/
namespace Sys2Proof.Machine

section Sparse
variable {α : Type} [DecidableEq α] (u : α)

omit [DecidableEq α] in
theorem Sparse.read_of_lt (m : List (Nat × α)) (a : Nat) (h : ∀ cell ∈ m, a < cell.1) : Sparse.read u m a = u := by
  induction m with
  | nil => rfl
  | cons cell rest ih =>
    obtain ⟨k, x⟩ := cell
    have hk : a < k := h (k, x) (by simp)
    simp only [Sparse.read, if_neg (show ¬ k = a by omega)]
    exact ih fun c hc => h c (by simp [hc])

theorem Sparse.wf_tail {cell : Nat × α} {rest : List (Nat × α)} (h : Sparse.wf u (cell :: rest)) :
    Sparse.wf u rest := by
  refine ⟨?_, fun c hc => h.2 c (by simp [hc])⟩
  have := h.1
  rw [List.map_cons, List.pairwise_cons] at this
  exact this.2

theorem Sparse.head_lt {cell : Nat × α} {rest : List (Nat × α)} (h : Sparse.wf u (cell :: rest)) :
    ∀ c ∈ rest, cell.1 < c.1 := by
  have := h.1
  rw [List.map_cons, List.pairwise_cons] at this
  exact fun c hc => this.1 c.1 (List.mem_map_of_mem hc)

/-- What is read after a write: the value at its address, what was there before at every other. -/
theorem Sparse.read_write (m : List (Nat × α)) (hm : Sparse.wf u m) (a b : Nat) (v : α) :
    Sparse.read u (Sparse.write u m a v) b = if b = a then v else Sparse.read u m b := by
  induction m with
  | nil =>
    by_cases hb : b = a
    · by_cases hv : v = u <;> simp [Sparse.write, Sparse.read, hv, hb]
    · by_cases hv : v = u <;> simp [Sparse.write, Sparse.read, hv, hb, Ne.symm hb]
  | cons cell rest ih =>
    obtain ⟨k, x⟩ := cell
    have hlt := Sparse.head_lt u hm
    have ih := ih (Sparse.wf_tail u hm)
    by_cases h1 : a < k
    · by_cases hb : b = a
      · subst hb
        have hr : Sparse.read u ((k, x) :: rest) b = u := by
          apply Sparse.read_of_lt
          intro c hc
          rcases List.mem_cons.1 hc with rfl | hc
          · exact h1
          · exact h1.trans (hlt c hc)
        by_cases hv : v = u
        · simp [Sparse.write, h1, hv, hr]
        · simp [Sparse.write, h1, hv, Sparse.read]
      · by_cases hv : v = u
        · simp [Sparse.write, h1, hv, hb]
        · simp [Sparse.write, h1, hv, hb, Sparse.read, Ne.symm hb]
    · by_cases h2 : a = k
      · subst h2
        by_cases hv : v = u
        · by_cases hb : b = a
          · subst hb
            simpa [Sparse.write, hv] using Sparse.read_of_lt u rest b hlt
          · simp [Sparse.write, hv, hb, Sparse.read, Ne.symm hb]
        · by_cases hb : b = a
          · simp [Sparse.write, hv, hb, Sparse.read]
          · simp [Sparse.write, hv, hb, Sparse.read, Ne.symm hb]
      · by_cases hk : k = b
        · subst hk
          simp [Sparse.write, h1, h2, Sparse.read, Ne.symm h2]
        · simp [Sparse.write, h1, h2, Sparse.read, hk, ih]

theorem Sparse.mem_write {m : List (Nat × α)} {a : Nat} {v : α} {c : Nat × α} (h : c ∈ Sparse.write u m a v) :
    c ∈ m ∨ (c = (a, v) ∧ v ≠ u) := by
  induction m with
  | nil => by_cases hv : v = u <;> simp_all [Sparse.write]
  | cons cell rest ih =>
    obtain ⟨k, x⟩ := cell
    simp only [Sparse.write] at h
    split at h
    · by_cases hv : v = u
      · rw [if_pos hv] at h; exact .inl h
      · rw [if_neg hv] at h
        rcases List.mem_cons.1 h with h | h
        · exact .inr ⟨h, hv⟩
        · exact .inl h
    · split at h
      · by_cases hv : v = u
        · rw [if_pos hv] at h; exact .inl (by simp [h])
        · rw [if_neg hv] at h
          rcases List.mem_cons.1 h with h | h
          · exact .inr ⟨h, hv⟩
          · exact .inl (by simp [h])
      · rcases List.mem_cons.1 h with h | h
        · exact .inl (by simp [h])
        · rcases ih h with h | h
          · exact .inl (by simp [h])
          · exact .inr h

theorem Sparse.wf_cons {cell : Nat × α} {rest : List (Nat × α)} (hr : Sparse.wf u rest)
    (hlt : ∀ c ∈ rest, cell.1 < c.1) (hu : cell.2 ≠ u) : Sparse.wf u (cell :: rest) := by
  refine ⟨?_, ?_⟩
  · rw [List.map_cons, List.pairwise_cons]
    refine ⟨fun k hk => ?_, hr.1⟩
    obtain ⟨c, hc, rfl⟩ := List.mem_map.1 hk
    exact hlt c hc
  · intro c hc
    rcases List.mem_cons.1 hc with rfl | hc
    · exact hu
    · exact hr.2 c hc

/-- A write keeps the canonical form. -/
theorem Sparse.write_wf (m : List (Nat × α)) (hm : Sparse.wf u m) (a : Nat) (v : α) :
    Sparse.wf u (Sparse.write u m a v) := by
  induction m with
  | nil => by_cases hv : v = u <;> simp [Sparse.write, Sparse.wf, hv]
  | cons cell rest ih =>
    obtain ⟨k, x⟩ := cell
    have hlt := Sparse.head_lt u hm
    have hrest := Sparse.wf_tail u hm
    have hx : x ≠ u := hm.2 (k, x) (by simp)
    simp only [Sparse.write]
    split
    · next h1 =>
      split
      · exact hm
      · next hv =>
        refine Sparse.wf_cons u hm (fun c hc => ?_) hv
        rcases List.mem_cons.1 hc with rfl | hc
        · exact h1
        · exact Nat.lt_trans h1 (hlt c hc)
    · next h1 =>
      split
      · next h2 =>
        split
        · exact hrest
        · next hv => exact Sparse.wf_cons u hrest (fun c hc => by subst h2; exact hlt c hc) hv
      · next h2 =>
        refine Sparse.wf_cons u (ih hrest) (fun c hc => ?_) hx
        rcases Sparse.mem_write u hc with hc | ⟨rfl, _⟩
        · exact hlt c hc
        · show k < a
          omega

end Sparse

theorem Memory.write_wf (m : Memory) (hm : Memory.wf m) (a : Nat) (v : Byte) : Memory.wf (Memory.write m a v) :=
  Sparse.write_wf _ m hm a v

theorem Memory.read_write (m : Memory) (hm : Memory.wf m) (a b : Nat) (v : Byte) :
    Memory.read (Memory.write m a v) b = if b = a then v else Memory.read m b :=
  Sparse.read_write _ m hm a b v

theorem Raster.space_wf (r : Raster) (h : r.wf) (space : RasterSpace) : Memory.wf (r.space space) := by
  obtain ⟨h1, h2, h3, h4, h5, _⟩ := h
  cases space <;> assumption

theorem Raster.writeByte_wf (r : Raster) (h : r.wf) (space : RasterSpace) (a : Nat) (v : Byte) :
    (r.writeByte space a v).wf := by
  have hw := Memory.write_wf _ (r.space_wf h space) a v
  obtain ⟨h1, h2, h3, h4, h5, h6⟩ := h
  cases space <;> exact ⟨by assumption, by assumption, by assumption, by assumption, by assumption, by assumption⟩

theorem Raster.writeResolver_wf (r : Raster) (h : r.wf) (key element : Nat) : (r.writeResolver key element).wf := by
  obtain ⟨h1, h2, h3, h4, h5, h6⟩ := h
  exact ⟨h1, h2, h3, h4, h5, Sparse.write_wf _ _ h6 key element⟩

theorem Raster.readByte_writeByte (r : Raster) (h : r.wf) (space space' : RasterSpace) (a b : Nat) (v : Byte) :
    (r.writeByte space a v).readByte space' b =
      if space' = space ∧ b = a then v else r.readByte space' b := by
  have hw := Memory.read_write _ (r.space_wf h space) a b v
  by_cases hs : space' = space
  · subst hs
    cases space' <;> simpa [Raster.readByte, Raster.writeByte, Raster.setSpace, Raster.space] using hw
  · cases space <;> cases space' <;>
      simp_all [Raster.readByte, Raster.writeByte, Raster.setSpace, Raster.space]

@[simp] theorem Raster.readResolver_writeByte (r : Raster) (space : RasterSpace) (a key : Nat) (v : Byte) :
    (r.writeByte space a v).readResolver key = r.readResolver key := by
  cases space <;> rfl

theorem Raster.readResolver_writeResolver (r : Raster) (h : r.wf) (key element key' : Nat) :
    (r.writeResolver key element).readResolver key' = if key' = key then element else r.readResolver key' :=
  Sparse.read_write _ _ h.2.2.2.2.2 key key' element

@[simp] theorem Raster.readByte_writeResolver (r : Raster) (key element : Nat) (space : RasterSpace) (b : Nat) :
    (r.writeResolver key element).readByte space b = r.readByte space b := by
  cases space <;> rfl

/-- The keys of two gathers' resolver calls differ wherever the arguments do. -/
theorem resolveKey_injective {b b' : BlockNum} {w w' : BitVec 6} {f f' : BitVec 4} {u u' : Nat} {v v' : BitVec 10}
    (hu : u < 2048) (hu' : u' < 2048) (h : resolveKey b w f u v = resolveKey b' w' f' u' v') :
    b = b' ∧ w = w' ∧ f = f' ∧ u = u' ∧ v = v' := by
  have hv := v.isLt
  have hv' := v'.isLt
  have hw := w.isLt
  have hw' := w'.isLt
  have hf := f.isLt
  have hf' := f'.isLt
  simp only [resolveKey] at h
  simp only [BitVec.toNat_eq]
  refine ⟨?_, ?_, ?_, ?_, ?_⟩ <;> omega

/-- A gather's horizontal coordinate stays below the key's bound (41_write_codecs.md R112). -/
theorem gatherU_bound (cou : BitVec 6) (i : Nat) (h : i < 256) : 16 * cou.toNat + i < 2048 := by
  have := cou.isLt
  omega

end Sys2Proof.Machine
end

