-- ==== Sys2Proof/Laws/State.lean ====
section
/-! SUPPORT. One lemma per field per update of the state. -/
namespace Sys2Proof.Machine

section
variable (s : State)

-- State.refreshWrite
@[simp] theorem State.refreshWrite_clut (t : TexCfg) (c : GatherCfg) : (s.refreshWrite t c).clut = s.clut := rfl
@[simp] theorem State.refreshWrite_buf32 (t : TexCfg) (c : GatherCfg) : (s.refreshWrite t c).buf32 = s.buf32 := rfl
@[simp] theorem State.refreshWrite_buf64 (t : TexCfg) (c : GatherCfg) : (s.refreshWrite t c).buf64 = s.buf64 := rfl
@[simp] theorem State.refreshWrite_wTex (t : TexCfg) (c : GatherCfg) : (s.refreshWrite t c).wTex = t := rfl
@[simp] theorem State.refreshWrite_wGather (t : TexCfg) (c : GatherCfg) : (s.refreshWrite t c).wGather = c := rfl
@[simp] theorem State.refreshWrite_wDirty (t : TexCfg) (c : GatherCfg) : (s.refreshWrite t c).wDirty = s.wDirty := rfl
@[simp] theorem State.refreshWrite_lc0 (t : TexCfg) (c : GatherCfg) : (s.refreshWrite t c).lc0 = s.lc0 := rfl
@[simp] theorem State.refreshWrite_lc1 (t : TexCfg) (c : GatherCfg) : (s.refreshWrite t c).lc1 = s.lc1 := rfl
@[simp] theorem State.refreshWrite_rTex (t : TexCfg) (c : GatherCfg) : (s.refreshWrite t c).rTex = s.rTex := rfl
@[simp] theorem State.refreshWrite_rAlpha (t : TexCfg) (c : GatherCfg) : (s.refreshWrite t c).rAlpha = s.rAlpha := rfl
@[simp] theorem State.refreshWrite_rDirty (t : TexCfg) (c : GatherCfg) : (s.refreshWrite t c).rDirty = s.rDirty := rfl
@[simp] theorem State.refreshWrite_rAlphaDirty (t : TexCfg) (c : GatherCfg) : (s.refreshWrite t c).rAlphaDirty = s.rAlphaDirty := rfl
@[simp] theorem State.refreshWrite_rAmin (t : TexCfg) (c : GatherCfg) : (s.refreshWrite t c).rAmin = s.rAmin := rfl
@[simp] theorem State.refreshWrite_rAmax (t : TexCfg) (c : GatherCfg) : (s.refreshWrite t c).rAmax = s.rAmax := rfl
@[simp] theorem State.refreshWrite_faulted (t : TexCfg) (c : GatherCfg) : (s.refreshWrite t c).faulted = s.faulted := rfl
@[simp] theorem State.refreshWrite_refused (t : TexCfg) (c : GatherCfg) : (s.refreshWrite t c).refused = s.refused := rfl
@[simp] theorem State.refreshWrite_cmdIndex (t : TexCfg) (c : GatherCfg) : (s.refreshWrite t c).cmdIndex = s.cmdIndex := rfl
@[simp] theorem State.refreshWrite_config (t : TexCfg) (c : GatherCfg) : (s.refreshWrite t c).config = s.config := rfl
@[simp] theorem State.refreshWrite_raster (t : TexCfg) (c : GatherCfg) : (s.refreshWrite t c).raster = s.raster := rfl
@[simp] theorem State.refreshWrite_pending (t : TexCfg) (c : GatherCfg) : (s.refreshWrite t c).pending = s.pending := rfl
@[simp] theorem State.refreshWrite_result (t : TexCfg) (c : GatherCfg) : (s.refreshWrite t c).result = s.result := rfl

-- State.commitWrite
@[simp] theorem State.commitWrite_clut (t : TexCfg) (c : GatherCfg) : (s.commitWrite t c).clut = s.clut := rfl
@[simp] theorem State.commitWrite_buf32 (t : TexCfg) (c : GatherCfg) : (s.commitWrite t c).buf32 = s.buf32 := rfl
@[simp] theorem State.commitWrite_buf64 (t : TexCfg) (c : GatherCfg) : (s.commitWrite t c).buf64 = s.buf64 := rfl
@[simp] theorem State.commitWrite_wTex (t : TexCfg) (c : GatherCfg) : (s.commitWrite t c).wTex = t := rfl
@[simp] theorem State.commitWrite_wGather (t : TexCfg) (c : GatherCfg) : (s.commitWrite t c).wGather = c := rfl
@[simp] theorem State.commitWrite_wDirty (t : TexCfg) (c : GatherCfg) : (s.commitWrite t c).wDirty = false := rfl
@[simp] theorem State.commitWrite_lc0 (t : TexCfg) (c : GatherCfg) : (s.commitWrite t c).lc0 = s.lc0 := rfl
@[simp] theorem State.commitWrite_lc1 (t : TexCfg) (c : GatherCfg) : (s.commitWrite t c).lc1 = s.lc1 := rfl
@[simp] theorem State.commitWrite_rTex (t : TexCfg) (c : GatherCfg) : (s.commitWrite t c).rTex = s.rTex := rfl
@[simp] theorem State.commitWrite_rAlpha (t : TexCfg) (c : GatherCfg) : (s.commitWrite t c).rAlpha = s.rAlpha := rfl
@[simp] theorem State.commitWrite_rDirty (t : TexCfg) (c : GatherCfg) : (s.commitWrite t c).rDirty = true := rfl
@[simp] theorem State.commitWrite_rAlphaDirty (t : TexCfg) (c : GatherCfg) : (s.commitWrite t c).rAlphaDirty = s.rAlphaDirty := rfl
@[simp] theorem State.commitWrite_rAmin (t : TexCfg) (c : GatherCfg) : (s.commitWrite t c).rAmin = s.rAmin := rfl
@[simp] theorem State.commitWrite_rAmax (t : TexCfg) (c : GatherCfg) : (s.commitWrite t c).rAmax = s.rAmax := rfl
@[simp] theorem State.commitWrite_faulted (t : TexCfg) (c : GatherCfg) : (s.commitWrite t c).faulted = s.faulted := rfl
@[simp] theorem State.commitWrite_refused (t : TexCfg) (c : GatherCfg) : (s.commitWrite t c).refused = s.refused := rfl
@[simp] theorem State.commitWrite_cmdIndex (t : TexCfg) (c : GatherCfg) : (s.commitWrite t c).cmdIndex = s.cmdIndex := rfl
@[simp] theorem State.commitWrite_config (t : TexCfg) (c : GatherCfg) : (s.commitWrite t c).config = s.config := rfl
@[simp] theorem State.commitWrite_raster (t : TexCfg) (c : GatherCfg) : (s.commitWrite t c).raster = s.raster := rfl
@[simp] theorem State.commitWrite_pending (t : TexCfg) (c : GatherCfg) : (s.commitWrite t c).pending = s.pending := rfl
@[simp] theorem State.commitWrite_result (t : TexCfg) (c : GatherCfg) : (s.commitWrite t c).result = s.result := rfl

-- State.setClut
@[simp] theorem State.setClut_clut (x : Vector Half 512) : (s.setClut x).clut = x := rfl
@[simp] theorem State.setClut_buf32 (x : Vector Half 512) : (s.setClut x).buf32 = s.buf32 := rfl
@[simp] theorem State.setClut_buf64 (x : Vector Half 512) : (s.setClut x).buf64 = s.buf64 := rfl
@[simp] theorem State.setClut_wTex (x : Vector Half 512) : (s.setClut x).wTex = s.wTex := rfl
@[simp] theorem State.setClut_wGather (x : Vector Half 512) : (s.setClut x).wGather = s.wGather := rfl
@[simp] theorem State.setClut_wDirty (x : Vector Half 512) : (s.setClut x).wDirty = s.wDirty := rfl
@[simp] theorem State.setClut_lc0 (x : Vector Half 512) : (s.setClut x).lc0 = s.lc0 := rfl
@[simp] theorem State.setClut_lc1 (x : Vector Half 512) : (s.setClut x).lc1 = s.lc1 := rfl
@[simp] theorem State.setClut_rTex (x : Vector Half 512) : (s.setClut x).rTex = s.rTex := rfl
@[simp] theorem State.setClut_rAlpha (x : Vector Half 512) : (s.setClut x).rAlpha = s.rAlpha := rfl
@[simp] theorem State.setClut_rDirty (x : Vector Half 512) : (s.setClut x).rDirty = s.rDirty := rfl
@[simp] theorem State.setClut_rAlphaDirty (x : Vector Half 512) : (s.setClut x).rAlphaDirty = s.rAlphaDirty := rfl
@[simp] theorem State.setClut_rAmin (x : Vector Half 512) : (s.setClut x).rAmin = s.rAmin := rfl
@[simp] theorem State.setClut_rAmax (x : Vector Half 512) : (s.setClut x).rAmax = s.rAmax := rfl
@[simp] theorem State.setClut_faulted (x : Vector Half 512) : (s.setClut x).faulted = s.faulted := rfl
@[simp] theorem State.setClut_refused (x : Vector Half 512) : (s.setClut x).refused = s.refused := rfl
@[simp] theorem State.setClut_cmdIndex (x : Vector Half 512) : (s.setClut x).cmdIndex = s.cmdIndex := rfl
@[simp] theorem State.setClut_config (x : Vector Half 512) : (s.setClut x).config = s.config := rfl
@[simp] theorem State.setClut_raster (x : Vector Half 512) : (s.setClut x).raster = s.raster := rfl
@[simp] theorem State.setClut_pending (x : Vector Half 512) : (s.setClut x).pending = s.pending := rfl
@[simp] theorem State.setClut_result (x : Vector Half 512) : (s.setClut x).result = s.result := rfl

-- State.markWriteDirty
@[simp] theorem State.markWriteDirty_clut : (s.markWriteDirty).clut = s.clut := rfl
@[simp] theorem State.markWriteDirty_buf32 : (s.markWriteDirty).buf32 = s.buf32 := rfl
@[simp] theorem State.markWriteDirty_buf64 : (s.markWriteDirty).buf64 = s.buf64 := rfl
@[simp] theorem State.markWriteDirty_wTex : (s.markWriteDirty).wTex = s.wTex := rfl
@[simp] theorem State.markWriteDirty_wGather : (s.markWriteDirty).wGather = s.wGather := rfl
@[simp] theorem State.markWriteDirty_wDirty : (s.markWriteDirty).wDirty = true := rfl
@[simp] theorem State.markWriteDirty_lc0 : (s.markWriteDirty).lc0 = s.lc0 := rfl
@[simp] theorem State.markWriteDirty_lc1 : (s.markWriteDirty).lc1 = s.lc1 := rfl
@[simp] theorem State.markWriteDirty_rTex : (s.markWriteDirty).rTex = s.rTex := rfl
@[simp] theorem State.markWriteDirty_rAlpha : (s.markWriteDirty).rAlpha = s.rAlpha := rfl
@[simp] theorem State.markWriteDirty_rDirty : (s.markWriteDirty).rDirty = s.rDirty := rfl
@[simp] theorem State.markWriteDirty_rAlphaDirty : (s.markWriteDirty).rAlphaDirty = s.rAlphaDirty := rfl
@[simp] theorem State.markWriteDirty_rAmin : (s.markWriteDirty).rAmin = s.rAmin := rfl
@[simp] theorem State.markWriteDirty_rAmax : (s.markWriteDirty).rAmax = s.rAmax := rfl
@[simp] theorem State.markWriteDirty_faulted : (s.markWriteDirty).faulted = s.faulted := rfl
@[simp] theorem State.markWriteDirty_refused : (s.markWriteDirty).refused = s.refused := rfl
@[simp] theorem State.markWriteDirty_cmdIndex : (s.markWriteDirty).cmdIndex = s.cmdIndex := rfl
@[simp] theorem State.markWriteDirty_config : (s.markWriteDirty).config = s.config := rfl
@[simp] theorem State.markWriteDirty_raster : (s.markWriteDirty).raster = s.raster := rfl
@[simp] theorem State.markWriteDirty_pending : (s.markWriteDirty).pending = s.pending := rfl
@[simp] theorem State.markWriteDirty_result : (s.markWriteDirty).result = s.result := rfl

-- State.refreshRead
@[simp] theorem State.refreshRead_clut (t : TexCfg) (a : AlphaCfg) : (s.refreshRead t a).clut = s.clut := rfl
@[simp] theorem State.refreshRead_buf32 (t : TexCfg) (a : AlphaCfg) : (s.refreshRead t a).buf32 = s.buf32 := rfl
@[simp] theorem State.refreshRead_buf64 (t : TexCfg) (a : AlphaCfg) : (s.refreshRead t a).buf64 = s.buf64 := rfl
@[simp] theorem State.refreshRead_wTex (t : TexCfg) (a : AlphaCfg) : (s.refreshRead t a).wTex = s.wTex := rfl
@[simp] theorem State.refreshRead_wGather (t : TexCfg) (a : AlphaCfg) : (s.refreshRead t a).wGather = s.wGather := rfl
@[simp] theorem State.refreshRead_wDirty (t : TexCfg) (a : AlphaCfg) : (s.refreshRead t a).wDirty = s.wDirty := rfl
@[simp] theorem State.refreshRead_lc0 (t : TexCfg) (a : AlphaCfg) : (s.refreshRead t a).lc0 = s.lc0 := rfl
@[simp] theorem State.refreshRead_lc1 (t : TexCfg) (a : AlphaCfg) : (s.refreshRead t a).lc1 = s.lc1 := rfl
@[simp] theorem State.refreshRead_rTex (t : TexCfg) (a : AlphaCfg) : (s.refreshRead t a).rTex = t := rfl
@[simp] theorem State.refreshRead_rAlpha (t : TexCfg) (a : AlphaCfg) : (s.refreshRead t a).rAlpha = a := rfl
@[simp] theorem State.refreshRead_rDirty (t : TexCfg) (a : AlphaCfg) : (s.refreshRead t a).rDirty = s.rDirty := rfl
@[simp] theorem State.refreshRead_rAlphaDirty (t : TexCfg) (a : AlphaCfg) : (s.refreshRead t a).rAlphaDirty = s.rAlphaDirty := rfl
@[simp] theorem State.refreshRead_rAmin (t : TexCfg) (a : AlphaCfg) : (s.refreshRead t a).rAmin = s.rAmin := rfl
@[simp] theorem State.refreshRead_rAmax (t : TexCfg) (a : AlphaCfg) : (s.refreshRead t a).rAmax = s.rAmax := rfl
@[simp] theorem State.refreshRead_faulted (t : TexCfg) (a : AlphaCfg) : (s.refreshRead t a).faulted = s.faulted := rfl
@[simp] theorem State.refreshRead_refused (t : TexCfg) (a : AlphaCfg) : (s.refreshRead t a).refused = s.refused := rfl
@[simp] theorem State.refreshRead_cmdIndex (t : TexCfg) (a : AlphaCfg) : (s.refreshRead t a).cmdIndex = s.cmdIndex := rfl
@[simp] theorem State.refreshRead_config (t : TexCfg) (a : AlphaCfg) : (s.refreshRead t a).config = s.config := rfl
@[simp] theorem State.refreshRead_raster (t : TexCfg) (a : AlphaCfg) : (s.refreshRead t a).raster = s.raster := rfl
@[simp] theorem State.refreshRead_pending (t : TexCfg) (a : AlphaCfg) : (s.refreshRead t a).pending = s.pending := rfl
@[simp] theorem State.refreshRead_result (t : TexCfg) (a : AlphaCfg) : (s.refreshRead t a).result = s.result := rfl

-- State.beginExpand
@[simp] theorem State.beginExpand_clut (t : TexCfg) (a : AlphaCfg) : (s.beginExpand t a).clut = s.clut := rfl
@[simp] theorem State.beginExpand_buf32 (t : TexCfg) (a : AlphaCfg) : (s.beginExpand t a).buf32 = s.buf32 := rfl
@[simp] theorem State.beginExpand_buf64 (t : TexCfg) (a : AlphaCfg) : (s.beginExpand t a).buf64 = s.buf64 := rfl
@[simp] theorem State.beginExpand_wTex (t : TexCfg) (a : AlphaCfg) : (s.beginExpand t a).wTex = s.wTex := rfl
@[simp] theorem State.beginExpand_wGather (t : TexCfg) (a : AlphaCfg) : (s.beginExpand t a).wGather = s.wGather := rfl
@[simp] theorem State.beginExpand_wDirty (t : TexCfg) (a : AlphaCfg) : (s.beginExpand t a).wDirty = s.wDirty := rfl
@[simp] theorem State.beginExpand_lc0 (t : TexCfg) (a : AlphaCfg) : (s.beginExpand t a).lc0 = s.lc0 := rfl
@[simp] theorem State.beginExpand_lc1 (t : TexCfg) (a : AlphaCfg) : (s.beginExpand t a).lc1 = s.lc1 := rfl
@[simp] theorem State.beginExpand_rTex (t : TexCfg) (a : AlphaCfg) : (s.beginExpand t a).rTex = t := rfl
@[simp] theorem State.beginExpand_rAlpha (t : TexCfg) (a : AlphaCfg) : (s.beginExpand t a).rAlpha = a := rfl
@[simp] theorem State.beginExpand_rDirty (t : TexCfg) (a : AlphaCfg) : (s.beginExpand t a).rDirty = false := rfl
@[simp] theorem State.beginExpand_rAlphaDirty (t : TexCfg) (a : AlphaCfg) : (s.beginExpand t a).rAlphaDirty = true := rfl
@[simp] theorem State.beginExpand_rAmin (t : TexCfg) (a : AlphaCfg) : (s.beginExpand t a).rAmin = s.rAmin := rfl
@[simp] theorem State.beginExpand_rAmax (t : TexCfg) (a : AlphaCfg) : (s.beginExpand t a).rAmax = s.rAmax := rfl
@[simp] theorem State.beginExpand_faulted (t : TexCfg) (a : AlphaCfg) : (s.beginExpand t a).faulted = s.faulted := rfl
@[simp] theorem State.beginExpand_refused (t : TexCfg) (a : AlphaCfg) : (s.beginExpand t a).refused = s.refused := rfl
@[simp] theorem State.beginExpand_cmdIndex (t : TexCfg) (a : AlphaCfg) : (s.beginExpand t a).cmdIndex = s.cmdIndex := rfl
@[simp] theorem State.beginExpand_config (t : TexCfg) (a : AlphaCfg) : (s.beginExpand t a).config = s.config := rfl
@[simp] theorem State.beginExpand_raster (t : TexCfg) (a : AlphaCfg) : (s.beginExpand t a).raster = s.raster := rfl
@[simp] theorem State.beginExpand_pending (t : TexCfg) (a : AlphaCfg) : (s.beginExpand t a).pending = s.pending := rfl
@[simp] theorem State.beginExpand_result (t : TexCfg) (a : AlphaCfg) : (s.beginExpand t a).result = s.result := rfl

-- State.setBuffers
@[simp] theorem State.setBuffers_clut (x : Vector Word 256) (y : Vector DWord 256) : (s.setBuffers x y).clut = s.clut := rfl
@[simp] theorem State.setBuffers_buf32 (x : Vector Word 256) (y : Vector DWord 256) : (s.setBuffers x y).buf32 = x := rfl
@[simp] theorem State.setBuffers_buf64 (x : Vector Word 256) (y : Vector DWord 256) : (s.setBuffers x y).buf64 = y := rfl
@[simp] theorem State.setBuffers_wTex (x : Vector Word 256) (y : Vector DWord 256) : (s.setBuffers x y).wTex = s.wTex := rfl
@[simp] theorem State.setBuffers_wGather (x : Vector Word 256) (y : Vector DWord 256) : (s.setBuffers x y).wGather = s.wGather := rfl
@[simp] theorem State.setBuffers_wDirty (x : Vector Word 256) (y : Vector DWord 256) : (s.setBuffers x y).wDirty = s.wDirty := rfl
@[simp] theorem State.setBuffers_lc0 (x : Vector Word 256) (y : Vector DWord 256) : (s.setBuffers x y).lc0 = s.lc0 := rfl
@[simp] theorem State.setBuffers_lc1 (x : Vector Word 256) (y : Vector DWord 256) : (s.setBuffers x y).lc1 = s.lc1 := rfl
@[simp] theorem State.setBuffers_rTex (x : Vector Word 256) (y : Vector DWord 256) : (s.setBuffers x y).rTex = s.rTex := rfl
@[simp] theorem State.setBuffers_rAlpha (x : Vector Word 256) (y : Vector DWord 256) : (s.setBuffers x y).rAlpha = s.rAlpha := rfl
@[simp] theorem State.setBuffers_rDirty (x : Vector Word 256) (y : Vector DWord 256) : (s.setBuffers x y).rDirty = s.rDirty := rfl
@[simp] theorem State.setBuffers_rAlphaDirty (x : Vector Word 256) (y : Vector DWord 256) : (s.setBuffers x y).rAlphaDirty = s.rAlphaDirty := rfl
@[simp] theorem State.setBuffers_rAmin (x : Vector Word 256) (y : Vector DWord 256) : (s.setBuffers x y).rAmin = s.rAmin := rfl
@[simp] theorem State.setBuffers_rAmax (x : Vector Word 256) (y : Vector DWord 256) : (s.setBuffers x y).rAmax = s.rAmax := rfl
@[simp] theorem State.setBuffers_faulted (x : Vector Word 256) (y : Vector DWord 256) : (s.setBuffers x y).faulted = s.faulted := rfl
@[simp] theorem State.setBuffers_refused (x : Vector Word 256) (y : Vector DWord 256) : (s.setBuffers x y).refused = s.refused := rfl
@[simp] theorem State.setBuffers_cmdIndex (x : Vector Word 256) (y : Vector DWord 256) : (s.setBuffers x y).cmdIndex = s.cmdIndex := rfl
@[simp] theorem State.setBuffers_config (x : Vector Word 256) (y : Vector DWord 256) : (s.setBuffers x y).config = s.config := rfl
@[simp] theorem State.setBuffers_raster (x : Vector Word 256) (y : Vector DWord 256) : (s.setBuffers x y).raster = s.raster := rfl
@[simp] theorem State.setBuffers_pending (x : Vector Word 256) (y : Vector DWord 256) : (s.setBuffers x y).pending = s.pending := rfl
@[simp] theorem State.setBuffers_result (x : Vector Word 256) (y : Vector DWord 256) : (s.setBuffers x y).result = s.result := rfl

-- State.setMemo
@[simp] theorem State.setMemo_clut (lo hi : Byte) : (s.setMemo lo hi).clut = s.clut := rfl
@[simp] theorem State.setMemo_buf32 (lo hi : Byte) : (s.setMemo lo hi).buf32 = s.buf32 := rfl
@[simp] theorem State.setMemo_buf64 (lo hi : Byte) : (s.setMemo lo hi).buf64 = s.buf64 := rfl
@[simp] theorem State.setMemo_wTex (lo hi : Byte) : (s.setMemo lo hi).wTex = s.wTex := rfl
@[simp] theorem State.setMemo_wGather (lo hi : Byte) : (s.setMemo lo hi).wGather = s.wGather := rfl
@[simp] theorem State.setMemo_wDirty (lo hi : Byte) : (s.setMemo lo hi).wDirty = s.wDirty := rfl
@[simp] theorem State.setMemo_lc0 (lo hi : Byte) : (s.setMemo lo hi).lc0 = s.lc0 := rfl
@[simp] theorem State.setMemo_lc1 (lo hi : Byte) : (s.setMemo lo hi).lc1 = s.lc1 := rfl
@[simp] theorem State.setMemo_rTex (lo hi : Byte) : (s.setMemo lo hi).rTex = s.rTex := rfl
@[simp] theorem State.setMemo_rAlpha (lo hi : Byte) : (s.setMemo lo hi).rAlpha = s.rAlpha := rfl
@[simp] theorem State.setMemo_rDirty (lo hi : Byte) : (s.setMemo lo hi).rDirty = s.rDirty := rfl
@[simp] theorem State.setMemo_rAlphaDirty (lo hi : Byte) : (s.setMemo lo hi).rAlphaDirty = false := rfl
@[simp] theorem State.setMemo_rAmin (lo hi : Byte) : (s.setMemo lo hi).rAmin = lo := rfl
@[simp] theorem State.setMemo_rAmax (lo hi : Byte) : (s.setMemo lo hi).rAmax = hi := rfl
@[simp] theorem State.setMemo_faulted (lo hi : Byte) : (s.setMemo lo hi).faulted = s.faulted := rfl
@[simp] theorem State.setMemo_refused (lo hi : Byte) : (s.setMemo lo hi).refused = s.refused := rfl
@[simp] theorem State.setMemo_cmdIndex (lo hi : Byte) : (s.setMemo lo hi).cmdIndex = s.cmdIndex := rfl
@[simp] theorem State.setMemo_config (lo hi : Byte) : (s.setMemo lo hi).config = s.config := rfl
@[simp] theorem State.setMemo_raster (lo hi : Byte) : (s.setMemo lo hi).raster = s.raster := rfl
@[simp] theorem State.setMemo_pending (lo hi : Byte) : (s.setMemo lo hi).pending = s.pending := rfl
@[simp] theorem State.setMemo_result (lo hi : Byte) : (s.setMemo lo hi).result = s.result := rfl

-- State.complete
@[simp] theorem State.complete_clut (v : ResultValue) (w : List Warning) : (s.complete v w).clut = s.clut := rfl
@[simp] theorem State.complete_buf32 (v : ResultValue) (w : List Warning) : (s.complete v w).buf32 = s.buf32 := rfl
@[simp] theorem State.complete_buf64 (v : ResultValue) (w : List Warning) : (s.complete v w).buf64 = s.buf64 := rfl
@[simp] theorem State.complete_wTex (v : ResultValue) (w : List Warning) : (s.complete v w).wTex = s.wTex := rfl
@[simp] theorem State.complete_wGather (v : ResultValue) (w : List Warning) : (s.complete v w).wGather = s.wGather := rfl
@[simp] theorem State.complete_wDirty (v : ResultValue) (w : List Warning) : (s.complete v w).wDirty = s.wDirty := rfl
@[simp] theorem State.complete_lc0 (v : ResultValue) (w : List Warning) : (s.complete v w).lc0 = s.lc0 := rfl
@[simp] theorem State.complete_lc1 (v : ResultValue) (w : List Warning) : (s.complete v w).lc1 = s.lc1 := rfl
@[simp] theorem State.complete_rTex (v : ResultValue) (w : List Warning) : (s.complete v w).rTex = s.rTex := rfl
@[simp] theorem State.complete_rAlpha (v : ResultValue) (w : List Warning) : (s.complete v w).rAlpha = s.rAlpha := rfl
@[simp] theorem State.complete_rDirty (v : ResultValue) (w : List Warning) : (s.complete v w).rDirty = s.rDirty := rfl
@[simp] theorem State.complete_rAlphaDirty (v : ResultValue) (w : List Warning) : (s.complete v w).rAlphaDirty = s.rAlphaDirty := rfl
@[simp] theorem State.complete_rAmin (v : ResultValue) (w : List Warning) : (s.complete v w).rAmin = s.rAmin := rfl
@[simp] theorem State.complete_rAmax (v : ResultValue) (w : List Warning) : (s.complete v w).rAmax = s.rAmax := rfl
@[simp] theorem State.complete_faulted (v : ResultValue) (w : List Warning) : (s.complete v w).faulted = s.faulted := rfl
@[simp] theorem State.complete_refused (v : ResultValue) (w : List Warning) : (s.complete v w).refused = s.refused := rfl
@[simp] theorem State.complete_cmdIndex (v : ResultValue) (w : List Warning) : (s.complete v w).cmdIndex = s.cmdIndex + 1 := rfl
@[simp] theorem State.complete_config (v : ResultValue) (w : List Warning) : (s.complete v w).config = s.config := rfl
@[simp] theorem State.complete_raster (v : ResultValue) (w : List Warning) : (s.complete v w).raster = s.raster := rfl
@[simp] theorem State.complete_pending (v : ResultValue) (w : List Warning) : (s.complete v w).pending = s.pending := rfl
@[simp] theorem State.complete_result (v : ResultValue) (w : List Warning) : (s.complete v w).result = some { value := v, warnings := w } := rfl

-- State.issue
@[simp] theorem State.issue_clut (w : CommandWords) : (s.issue w).clut = s.clut := rfl
@[simp] theorem State.issue_buf32 (w : CommandWords) : (s.issue w).buf32 = s.buf32 := rfl
@[simp] theorem State.issue_buf64 (w : CommandWords) : (s.issue w).buf64 = s.buf64 := rfl
@[simp] theorem State.issue_wTex (w : CommandWords) : (s.issue w).wTex = s.wTex := rfl
@[simp] theorem State.issue_wGather (w : CommandWords) : (s.issue w).wGather = s.wGather := rfl
@[simp] theorem State.issue_wDirty (w : CommandWords) : (s.issue w).wDirty = s.wDirty := rfl
@[simp] theorem State.issue_lc0 (w : CommandWords) : (s.issue w).lc0 = s.lc0 := rfl
@[simp] theorem State.issue_lc1 (w : CommandWords) : (s.issue w).lc1 = s.lc1 := rfl
@[simp] theorem State.issue_rTex (w : CommandWords) : (s.issue w).rTex = s.rTex := rfl
@[simp] theorem State.issue_rAlpha (w : CommandWords) : (s.issue w).rAlpha = s.rAlpha := rfl
@[simp] theorem State.issue_rDirty (w : CommandWords) : (s.issue w).rDirty = s.rDirty := rfl
@[simp] theorem State.issue_rAlphaDirty (w : CommandWords) : (s.issue w).rAlphaDirty = s.rAlphaDirty := rfl
@[simp] theorem State.issue_rAmin (w : CommandWords) : (s.issue w).rAmin = s.rAmin := rfl
@[simp] theorem State.issue_rAmax (w : CommandWords) : (s.issue w).rAmax = s.rAmax := rfl
@[simp] theorem State.issue_faulted (w : CommandWords) : (s.issue w).faulted = s.faulted := rfl
@[simp] theorem State.issue_refused (w : CommandWords) : (s.issue w).refused = s.refused := rfl
@[simp] theorem State.issue_cmdIndex (w : CommandWords) : (s.issue w).cmdIndex = s.cmdIndex := rfl
@[simp] theorem State.issue_config (w : CommandWords) : (s.issue w).config = s.config := rfl
@[simp] theorem State.issue_raster (w : CommandWords) : (s.issue w).raster = s.raster := rfl
@[simp] theorem State.issue_pending (w : CommandWords) : (s.issue w).pending = .command w :: s.pending := rfl
@[simp] theorem State.issue_result (w : CommandWords) : (s.issue w).result = s.result := rfl

-- State.takeEvent
@[simp] theorem State.takeEvent_clut (rest : List HostEvent) : (s.takeEvent rest).clut = s.clut := rfl
@[simp] theorem State.takeEvent_buf32 (rest : List HostEvent) : (s.takeEvent rest).buf32 = s.buf32 := rfl
@[simp] theorem State.takeEvent_buf64 (rest : List HostEvent) : (s.takeEvent rest).buf64 = s.buf64 := rfl
@[simp] theorem State.takeEvent_wTex (rest : List HostEvent) : (s.takeEvent rest).wTex = s.wTex := rfl
@[simp] theorem State.takeEvent_wGather (rest : List HostEvent) : (s.takeEvent rest).wGather = s.wGather := rfl
@[simp] theorem State.takeEvent_wDirty (rest : List HostEvent) : (s.takeEvent rest).wDirty = s.wDirty := rfl
@[simp] theorem State.takeEvent_lc0 (rest : List HostEvent) : (s.takeEvent rest).lc0 = s.lc0 := rfl
@[simp] theorem State.takeEvent_lc1 (rest : List HostEvent) : (s.takeEvent rest).lc1 = s.lc1 := rfl
@[simp] theorem State.takeEvent_rTex (rest : List HostEvent) : (s.takeEvent rest).rTex = s.rTex := rfl
@[simp] theorem State.takeEvent_rAlpha (rest : List HostEvent) : (s.takeEvent rest).rAlpha = s.rAlpha := rfl
@[simp] theorem State.takeEvent_rDirty (rest : List HostEvent) : (s.takeEvent rest).rDirty = s.rDirty := rfl
@[simp] theorem State.takeEvent_rAlphaDirty (rest : List HostEvent) : (s.takeEvent rest).rAlphaDirty = s.rAlphaDirty := rfl
@[simp] theorem State.takeEvent_rAmin (rest : List HostEvent) : (s.takeEvent rest).rAmin = s.rAmin := rfl
@[simp] theorem State.takeEvent_rAmax (rest : List HostEvent) : (s.takeEvent rest).rAmax = s.rAmax := rfl
@[simp] theorem State.takeEvent_faulted (rest : List HostEvent) : (s.takeEvent rest).faulted = s.faulted := rfl
@[simp] theorem State.takeEvent_refused (rest : List HostEvent) : (s.takeEvent rest).refused = s.refused := rfl
@[simp] theorem State.takeEvent_cmdIndex (rest : List HostEvent) : (s.takeEvent rest).cmdIndex = s.cmdIndex := rfl
@[simp] theorem State.takeEvent_config (rest : List HostEvent) : (s.takeEvent rest).config = s.config := rfl
@[simp] theorem State.takeEvent_raster (rest : List HostEvent) : (s.takeEvent rest).raster = s.raster := rfl
@[simp] theorem State.takeEvent_pending (rest : List HostEvent) : (s.takeEvent rest).pending = rest := rfl
@[simp] theorem State.takeEvent_result (rest : List HostEvent) : (s.takeEvent rest).result = s.result := rfl

-- State.setRaster
@[simp] theorem State.setRaster_clut (r : Raster) : (s.setRaster r).clut = s.clut := rfl
@[simp] theorem State.setRaster_buf32 (r : Raster) : (s.setRaster r).buf32 = s.buf32 := rfl
@[simp] theorem State.setRaster_buf64 (r : Raster) : (s.setRaster r).buf64 = s.buf64 := rfl
@[simp] theorem State.setRaster_wTex (r : Raster) : (s.setRaster r).wTex = s.wTex := rfl
@[simp] theorem State.setRaster_wGather (r : Raster) : (s.setRaster r).wGather = s.wGather := rfl
@[simp] theorem State.setRaster_wDirty (r : Raster) : (s.setRaster r).wDirty = s.wDirty := rfl
@[simp] theorem State.setRaster_lc0 (r : Raster) : (s.setRaster r).lc0 = s.lc0 := rfl
@[simp] theorem State.setRaster_lc1 (r : Raster) : (s.setRaster r).lc1 = s.lc1 := rfl
@[simp] theorem State.setRaster_rTex (r : Raster) : (s.setRaster r).rTex = s.rTex := rfl
@[simp] theorem State.setRaster_rAlpha (r : Raster) : (s.setRaster r).rAlpha = s.rAlpha := rfl
@[simp] theorem State.setRaster_rDirty (r : Raster) : (s.setRaster r).rDirty = s.rDirty := rfl
@[simp] theorem State.setRaster_rAlphaDirty (r : Raster) : (s.setRaster r).rAlphaDirty = s.rAlphaDirty := rfl
@[simp] theorem State.setRaster_rAmin (r : Raster) : (s.setRaster r).rAmin = s.rAmin := rfl
@[simp] theorem State.setRaster_rAmax (r : Raster) : (s.setRaster r).rAmax = s.rAmax := rfl
@[simp] theorem State.setRaster_faulted (r : Raster) : (s.setRaster r).faulted = s.faulted := rfl
@[simp] theorem State.setRaster_refused (r : Raster) : (s.setRaster r).refused = s.refused := rfl
@[simp] theorem State.setRaster_cmdIndex (r : Raster) : (s.setRaster r).cmdIndex = s.cmdIndex := rfl
@[simp] theorem State.setRaster_config (r : Raster) : (s.setRaster r).config = s.config := rfl
@[simp] theorem State.setRaster_raster (r : Raster) : (s.setRaster r).raster = r := rfl
@[simp] theorem State.setRaster_pending (r : Raster) : (s.setRaster r).pending = s.pending := rfl
@[simp] theorem State.setRaster_result (r : Raster) : (s.setRaster r).result = s.result := rfl

-- State.writeLc
@[simp] theorem State.writeLc_clut (slot : LcSlot) (v : BlockNum) : (s.writeLc slot v).clut = s.clut := by cases slot <;> rfl
@[simp] theorem State.writeLc_buf32 (slot : LcSlot) (v : BlockNum) : (s.writeLc slot v).buf32 = s.buf32 := by cases slot <;> rfl
@[simp] theorem State.writeLc_buf64 (slot : LcSlot) (v : BlockNum) : (s.writeLc slot v).buf64 = s.buf64 := by cases slot <;> rfl
@[simp] theorem State.writeLc_wTex (slot : LcSlot) (v : BlockNum) : (s.writeLc slot v).wTex = s.wTex := by cases slot <;> rfl
@[simp] theorem State.writeLc_wGather (slot : LcSlot) (v : BlockNum) : (s.writeLc slot v).wGather = s.wGather := by cases slot <;> rfl
@[simp] theorem State.writeLc_wDirty (slot : LcSlot) (v : BlockNum) : (s.writeLc slot v).wDirty = s.wDirty := by cases slot <;> rfl
@[simp] theorem State.writeLc_rTex (slot : LcSlot) (v : BlockNum) : (s.writeLc slot v).rTex = s.rTex := by cases slot <;> rfl
@[simp] theorem State.writeLc_rAlpha (slot : LcSlot) (v : BlockNum) : (s.writeLc slot v).rAlpha = s.rAlpha := by cases slot <;> rfl
@[simp] theorem State.writeLc_rDirty (slot : LcSlot) (v : BlockNum) : (s.writeLc slot v).rDirty = s.rDirty := by cases slot <;> rfl
@[simp] theorem State.writeLc_rAlphaDirty (slot : LcSlot) (v : BlockNum) : (s.writeLc slot v).rAlphaDirty = s.rAlphaDirty := by cases slot <;> rfl
@[simp] theorem State.writeLc_rAmin (slot : LcSlot) (v : BlockNum) : (s.writeLc slot v).rAmin = s.rAmin := by cases slot <;> rfl
@[simp] theorem State.writeLc_rAmax (slot : LcSlot) (v : BlockNum) : (s.writeLc slot v).rAmax = s.rAmax := by cases slot <;> rfl
@[simp] theorem State.writeLc_faulted (slot : LcSlot) (v : BlockNum) : (s.writeLc slot v).faulted = s.faulted := by cases slot <;> rfl
@[simp] theorem State.writeLc_refused (slot : LcSlot) (v : BlockNum) : (s.writeLc slot v).refused = s.refused := by cases slot <;> rfl
@[simp] theorem State.writeLc_cmdIndex (slot : LcSlot) (v : BlockNum) : (s.writeLc slot v).cmdIndex = s.cmdIndex := by cases slot <;> rfl
@[simp] theorem State.writeLc_config (slot : LcSlot) (v : BlockNum) : (s.writeLc slot v).config = s.config := by cases slot <;> rfl
@[simp] theorem State.writeLc_raster (slot : LcSlot) (v : BlockNum) : (s.writeLc slot v).raster = s.raster := by cases slot <;> rfl
@[simp] theorem State.writeLc_pending (slot : LcSlot) (v : BlockNum) : (s.writeLc slot v).pending = s.pending := by cases slot <;> rfl
@[simp] theorem State.writeLc_result (slot : LcSlot) (v : BlockNum) : (s.writeLc slot v).result = s.result := by cases slot <;> rfl
@[simp] theorem State.writeLc_slot0_lc0 (v : BlockNum) : (s.writeLc .slot0 v).lc0 = v := rfl
@[simp] theorem State.writeLc_slot0_lc1 (v : BlockNum) : (s.writeLc .slot0 v).lc1 = s.lc1 := rfl
@[simp] theorem State.writeLc_slot1_lc0 (v : BlockNum) : (s.writeLc .slot1 v).lc0 = s.lc0 := rfl
@[simp] theorem State.writeLc_slot1_lc1 (v : BlockNum) : (s.writeLc .slot1 v).lc1 = v := rfl
@[simp] theorem State.readLc_slot0 : s.readLc .slot0 = s.lc0 := rfl
@[simp] theorem State.readLc_slot1 : s.readLc .slot1 = s.lc1 := rfl

-- State.afterOutcome
@[simp] theorem State.afterOutcome_next (t : State) : s.afterOutcome (.next t) = t := rfl
@[simp] theorem State.afterOutcome_fault (f : Fault) : s.afterOutcome (.fault f) = { s with faulted := true } := rfl
@[simp] theorem State.afterOutcome_refused (r : Refusal) : s.afterOutcome (.refused r) = { s with refused := true } := rfl

end

end Sys2Proof.Machine
end

