-- ==== Sys2Proof/Laws/Commands.lean ====
section
/-! SUPPORT. For each shared operation, one lemma that says everything it can do. -/
namespace Sys2Proof.Machine

/-- The write dirty test does not read LC (spec/40_write_tracker.md R81). -/
@[simp] theorem writeDirty_writeLc (s : State) (slot : LcSlot) (v : BlockNum) (t : TexCfg) (c : GatherCfg) :
    writeDirty (s.writeLc slot v) t c = writeDirty s t c := by
  simp [writeDirty]

/-- The write dirty test: it reports `writeDirty`, and refreshes the snapshot exactly when that is false. -/
theorem writeDirtyTest_eq (s : State) (t : TexCfg) (c : GatherCfg) :
    writeDirtyTest s t c = (writeDirty s t c, if writeDirty s t c then s else s.refreshWrite t c) := by
  unfold writeDirtyTest
  cases writeDirty s t c <;> rfl

/-- What WRITE_TEST can do: answer 0 and change nothing, or run the dirty test after recording at most one slot. -/
theorem writeTest_cases (s : State) (t : TexCfg) (c : GatherCfg) :
    writeTest s t c = (false, s) ∨
    ∃ u, (u = s ∨ ∃ slot, u = s.writeLc slot t.cbp) ∧
      writeTest s t c = (writeDirty s t c, if writeDirty s t c then u else u.refreshWrite t c) := by
  unfold writeTest
  split
  · exact .inl rfl
  · split
    · exact .inl rfl
    · exact .inr ⟨s, .inl rfl, writeDirtyTest_eq s t c⟩
    · next slot _ =>
      refine .inr ⟨s.writeLc slot t.cbp, .inr ⟨slot, rfl⟩, ?_⟩
      rw [writeDirtyTest_eq, writeDirty_writeLc]
    · next slot _ =>
      split
      · exact .inl rfl
      · refine .inr ⟨s.writeLc slot t.cbp, .inr ⟨slot, rfl⟩, ?_⟩
        rw [writeDirtyTest_eq, writeDirty_writeLc]

/-- What WRITE_TEST leaves alone: everything but LC and the Write Snapshot. -/
theorem writeTest_frame (s : State) (t : TexCfg) (c : GatherCfg) :
    let u := (writeTest s t c).2
    u.clut = s.clut ∧ u.buf32 = s.buf32 ∧ u.buf64 = s.buf64 ∧ u.wDirty = s.wDirty ∧ u.rTex = s.rTex ∧
    u.rAlpha = s.rAlpha ∧ u.rDirty = s.rDirty ∧ u.rAlphaDirty = s.rAlphaDirty ∧ u.rAmin = s.rAmin ∧
    u.rAmax = s.rAmax ∧ u.faulted = s.faulted ∧ u.refused = s.refused ∧ u.cmdIndex = s.cmdIndex ∧
    u.config = s.config ∧ u.raster = s.raster ∧ u.pending = s.pending ∧ u.result = s.result := by
  rcases writeTest_cases s t c with h | ⟨u, hu, h⟩
  · simp [h]
  · rw [h]
    cases writeDirty s t c <;> rcases hu with rfl | ⟨slot, rfl⟩ <;> simp

/-- WRITE is its snapshot and flags, and a Palette Store that its routine decides. -/
theorem writePalette_fst (s : State) (t : TexCfg) (c : GatherCfg) :
    (writePalette s t c).1 =
      (s.commitWrite t c).setClut
        ((runRoutine (writeRoutine s.config t) s.config s.raster s.clut t c).getD s.clut) := by
  unfold writePalette
  cases runRoutine (writeRoutine s.config t) s.config s.raster s.clut t c <;> rfl

/-- A path changes the buffers only. -/
theorem runPath_eq (path : ExpandPath) (s : State) (t : TexCfg) (a : AlphaCfg) :
    ∃ x y, runPath path s t a = s.setBuffers x y := by
  cases path
  · exact ⟨_, _, rfl⟩
  · exact ⟨_, _, rfl⟩
  · exact ⟨_, _, rfl⟩
  · exact ⟨_, _, rfl⟩
  · exact ⟨s.buf32, s.buf64, rfl⟩

-- What a command that ends in a next state did, one lemma per constructor of Instr.

theorem writeTest_next {t : TexCfg} {c : GatherCfg} {s u : State} (h : exec (.writeTest t c) s = .next u) :
    u = (writeTest s t c).2.complete (.reload (writeTest s t c).1) [] := by
  injection h with h
  exact h.symm

theorem write_next {t : TexCfg} {c : GatherCfg} {s u : State} (h : exec (.write t c) s = .next u) :
    u = (writePalette s t c).1.complete (.status (writePalette s t c).2.1) (writePalette s t c).2.2 := by
  injection h with h
  exact h.symm

theorem load_next {t : TexCfg} {c : GatherCfg} {s u : State} (h : exec (.load t c) s = .next u) :
    let p := writeTest s t c
    (p.1 = true ∧ u = (writePalette p.2 t c).1.complete (.load true (some (writePalette p.2 t c).2.1))
        (writePalette p.2 t c).2.2) ∨
    (p.1 = false ∧ u = p.2.complete (.load false none) []) := by
  simp only [exec, execLoad] at h
  split at h
  · next hp =>
    injection h with h
    exact .inl ⟨hp, h.symm⟩
  · next hp =>
    injection h with h
    exact .inr ⟨by simpa using hp, h.symm⟩

theorem read_next {t : TexCfg} {a : AlphaCfg} {s u : State} (h : exec (.read t a) s = .next u) :
    let v := runPath (readPath s.config t) (s.beginExpand t a) t a
    (readDirty s t a = false ∧ u = (s.refreshRead t a).complete (paletteResult (s.refreshRead t a) false) []) ∨
    (readDirty s t a = true ∧ u = v.complete (paletteResult v true) []) := by
  simp only [exec, execRead] at h
  split at h
  · next hd =>
    injection h with h
    exact .inr ⟨hd, h.symm⟩
  · next hd =>
    injection h with h
    exact .inl ⟨by simpa using hd, h.symm⟩

theorem alphaMinMax_next {s u : State} (h : exec .alphaMinMax s = .next u) :
    let p := scanAlpha s.buf32 (scanCount s.config s.rTex.psm)
    Safety.AlphaQueryValid s ∧
    ((fastAlpha s = true ∧ u = s.complete (.alphaRange s.rAlpha.ta0 s.rAlpha.ta0) []) ∨
     (fastAlpha s = false ∧ s.rAlphaDirty = true ∧ u = (s.setMemo p.1 p.2).complete (.alphaRange p.1 p.2) []) ∨
     (fastAlpha s = false ∧ s.rAlphaDirty = false ∧ u = s.complete (.alphaRange s.rAmin s.rAmax) [])) := by
  simp only [exec, execAlphaMinMax, raise] at h
  split at h
  · cases h
  · next h1 =>
    split at h
    · cases h
    · next h2 =>
      refine ⟨⟨by simpa using h1, h2⟩, ?_⟩
      split at h
      · next h3 =>
        injection h with h
        exact .inl ⟨h3, h.symm⟩
      · next h3 =>
        split at h
        · next h4 =>
          injection h with h
          exact .inr (.inl ⟨by simpa using h3, h4, h.symm⟩)
        · next h4 =>
          injection h with h
          exact .inr (.inr ⟨by simpa using h3, by simpa using h4, h.symm⟩)

theorem invalidate_next {s u : State} (h : exec .invalidate s = .next u) :
    u = s.markWriteDirty.complete .nothing [] := by
  injection h with h
  exact h.symm

theorem invalidateBlock_next {block : BlockNum} {s u : State} (h : exec (.invalidateBlock block) s = .next u) :
    u = (if sameGroup block s.wTex.cbp then s.markWriteDirty else s).complete .nothing [] := by
  injection h with h
  exact h.symm

theorem invalidateRange_next {first last : BlockNum} {s u : State}
    (h : exec (.invalidateRange first last) s = .next u) :
    u = (if rangeMeets first last s.wTex.cbp (footprint s.config s.wTex) then s.markWriteDirty
        else s).complete .nothing [] := by
  injection h with h
  exact h.symm

/-- One command of the host in a run that goes on is that command executed (spec/00_scope.md R2). -/
theorem step_command (s : State) (w : CommandWords) (rest : List HostEvent) (i : Instr) (h : Safety.Live s)
    (hp : s.pending = .command w :: rest) (hd : decode w = .ok i) : step s = exec i (s.takeEvent rest) := by
  obtain ⟨h1, h2⟩ := h
  simp [step, nextEvent, h1, h2, hp, runEvent, runCommand, hd]

/-- What a step that ends in a next state did: nothing, one command, or one change of the raster image. -/
theorem step_cases (s t : State) (h : step s = .next t) :
    Safety.Live s ∧
    ((s.pending = [] ∧ t = s) ∨
     (∃ w rest i, s.pending = .command w :: rest ∧ decode w = .ok i ∧ exec i (s.takeEvent rest) = .next t) ∨
     (∃ space address value rest, s.pending = .rasterByte space address value :: rest ∧
        t = (s.takeEvent rest).setRaster (s.raster.writeByte space address value)) ∨
     (∃ key element rest, s.pending = .resolverEntry key element :: rest ∧
        t = (s.takeEvent rest).setRaster (s.raster.writeResolver key element))) := by
  unfold step nextEvent at h
  by_cases h1 : s.runOver = true
  · simp [h1, refuse] at h
  by_cases h2 : s.config.wellFormed = true
  · refine ⟨⟨by simpa using h1, h2⟩, ?_⟩
    rw [if_neg h1, if_pos h2] at h
    split at h
    · next hp =>
      injection h with h
      exact .inl ⟨hp, h.symm⟩
    · next e rest hp =>
      cases e with
      | command w =>
        refine .inr (.inl ⟨w, rest, ?_⟩)
        simp only [runEvent, runCommand] at h
        split at h
        · next i hd => exact ⟨i, hp, hd, h⟩
        · simp [refuse] at h
      | foreignCommand w => simp [runEvent, refuse] at h
      | rasterByte space address value =>
        refine .inr (.inr (.inl ⟨space, address, value, rest, hp, ?_⟩))
        simp only [runEvent, Host.Outcome.next.injEq] at h
        exact h.symm
      | resolverEntry key element =>
        refine .inr (.inr (.inr ⟨key, element, rest, hp, ?_⟩))
        simp only [runEvent, Host.Outcome.next.injEq] at h
        exact h.symm
  · simp [h1, h2, refuse] at h

end Sys2Proof.Machine
end

