-- ==== Sys2Proof/Laws/Encoding.lean ====
section
/-! SUPPORT. Fields of a packed word: what a field placed at one position shows at each position. -/
namespace Sys2Proof

theorem getLsbD_place {n : Nat} (v : BitVec n) (lo i : Nat) :
    (place v lo).getLsbD i = (decide (lo ≤ i ∧ i < 64) && v.getLsbD (i - lo)) := by
  simp only [place, BitVec.getLsbD_shiftLeft, BitVec.getLsbD_setWidth]
  by_cases h1 : i < 64
  · by_cases h2 : lo ≤ i
    · simp [h1, h2, show ¬ i < lo by omega, show i - lo < 64 by omega]
    · simp [h1, h2, show i < lo by omega]
  · simp [h1]

/-- The field itself reads back. -/
theorem extract_place_self {n : Nat} (v : BitVec n) (lo : Nat) (h : lo + n ≤ 64) :
    (place v lo).extractLsb' lo n = v := by
  ext i hi
  rw [BitVec.getElem_extractLsb', getLsbD_place]
  simp [show lo + i < 64 by omega]
  exact BitVec.getLsbD_eq_getElem hi

/-- A field that does not overlap the placed one reads zero. -/
theorem extract_place_disjoint {n : Nat} (v : BitVec n) (lo a m : Nat) (h : lo + n ≤ a ∨ a + m ≤ lo) :
    (place v lo).extractLsb' a m = 0 := by
  ext i hi
  simp only [BitVec.getElem_extractLsb', getLsbD_place]
  rcases h with h | h
  · simp [BitVec.getLsbD_of_ge v (a + i - lo) (by omega)]
  · simp [show ¬ lo ≤ a + i by omega]

@[simp] theorem StorageMode.ofBit_toBit (m : StorageMode) : StorageMode.ofBit m.toBit = m := by
  cases m <;> rfl

@[simp] theorem aemFlag_aemBit (b : Bool) : aemFlag (aemBit b) = b := by
  cases b <;> rfl

end Sys2Proof
end

