-- ==== Sys2Proof/Laws/PerInstr.lean ====
section
/-! SUPPORT. Statements for all instructions, one lemma per constructor of Instr. -/
namespace Sys2Proof.Laws.OpcodeMap

/-- The OP of a command in the opcode map (spec/30_encoding.md R70). -/
def opcode : Instr → BitVec 4
  | .writeTest _ _ => 0x1
  | .write _ _ => 0x2
  | .load _ _ => 0x3
  | .read _ _ => 0x4
  | .alphaMinMax => 0x5
  | .invalidate => 0x6
  | .invalidateBlock _ => 0x7
  | .invalidateRange _ _ => 0x8

/-- The opcode map, for one command: its words are well formed and carry its OP, and every command word with that
OP, whatever its operand words, decodes to a command of that OP (R70 to R72). -/
def Statement (i : Instr) : Prop :=
  (encode i).op = opcode i ∧ (encode i).wellFormed = true ∧
    ∀ w : CommandWords, w.op = opcode i → ∃ j, decode w = .ok j ∧ opcode j = opcode i

theorem writeTest (t : TexCfg) (c : GatherCfg) : Statement (.writeTest t c) :=
  ⟨rfl, rfl, fun w h => ⟨.writeTest (decodeT w.t) (decodeC w.c), by simp [decode, h, opcode], rfl⟩⟩

theorem write (t : TexCfg) (c : GatherCfg) : Statement (.write t c) :=
  ⟨rfl, rfl, fun w h => ⟨.write (decodeT w.t) (decodeC w.c), by simp [decode, h, opcode], rfl⟩⟩

theorem load (t : TexCfg) (c : GatherCfg) : Statement (.load t c) :=
  ⟨rfl, rfl, fun w h => ⟨.load (decodeT w.t) (decodeC w.c), by simp [decode, h, opcode], rfl⟩⟩

theorem read (t : TexCfg) (a : AlphaCfg) : Statement (.read t a) :=
  ⟨rfl, rfl, fun w h => ⟨.read (decodeT w.t) (decodeA w.a), by simp [decode, h, opcode], rfl⟩⟩

theorem alphaMinMax : Statement .alphaMinMax :=
  ⟨rfl, rfl, fun w h => ⟨.alphaMinMax, by simp [decode, h, opcode], rfl⟩⟩

theorem invalidate : Statement .invalidate :=
  ⟨rfl, rfl, fun w h => ⟨.invalidate, by simp [decode, h, opcode], rfl⟩⟩

theorem invalidateBlock (block : BlockNum) : Statement (.invalidateBlock block) :=
  ⟨rfl, rfl, fun w h => ⟨.invalidateBlock (decodeBlock w.b), by simp [decode, h, opcode], rfl⟩⟩

theorem invalidateRange (first last : BlockNum) : Statement (.invalidateRange first last) :=
  ⟨rfl, rfl, fun w h => ⟨.invalidateRange (decodeBlock w.b) (decodeLast w.b), by simp [decode, h, opcode], rfl⟩⟩

end Sys2Proof.Laws.OpcodeMap
end

