-- ==== Sys2Proof/Tests/Slice0.lean ====
section
/-! SUPPORT. The model's own tests. Expected values come from spec/95_test_vectors.md (the vector is named) or from
the rule named. The theorems `test_witness_<Name>` show states and operands that meet the hypotheses of the
statement `Obligations.<Name>`, clause by clause where it has clauses. -/
namespace Sys2Proof.Tests
open Sys2Proof.Machine Sys2Proof.Safety

-- Helpers.

/-- A texture bundle from the fields of 95_test_vectors.md's notation; an omitted csm is DIRECT. -/
def tex (psm : BitVec 6) (cbp : BlockNum) (cpsm : BitVec 4) (csa : BitVec 5) (cld : BitVec 3) : TexCfg :=
  { psm := psm, cbp := cbp, cpsm := cpsm, csm := .direct, csa := csa, cld := cld }

/-- The empty gather and alpha bundles, C{} and A{}. -/
def noC : GatherCfg := { cbw := 0, cou := 0, cov := 0 }
def noA : AlphaCfg := { ta0 := 0, aem := false, ta1 := 0 }

/-- PSMT8 at block 0x100 with a 32-bit palette and CLD 1, the operands most vectors use. -/
def t8 : TexCfg := tex 0x13 0x100 0x0 0 1

/-- The state after reset with a raster image and one entry of CLUT set. -/
def withEntry (e : Fin 512) (v : Half) : State :=
  { State.reset with clut := State.reset.clut.set e.val v e.isLt }

/-- A state whose write snapshot is current (WT9's start). -/
def writeClean (t : TexCfg) (c : GatherCfg) : State :=
  { State.reset with wDirty := false, wTex := t, wGather := c, lc0 := 0x100, lc1 := 0x200 }

/-- A state whose expansion is current. -/
def readClean (t : TexCfg) (a : AlphaCfg) : State :=
  { State.reset with rDirty := false, rTex := t, rAlpha := a }

/-- The reset state with one raster element of the 32-bit view: element 4 of block 0x100 is 0x04000004. -/
def element32 : State :=
  { State.reset with raster := { Raster.empty with view32 := [(262160, 0x04), (262163, 0x04)] } }

/-- The reset state with one element of the 16-bit view: element 1 of block 0x100 is 0x1001. -/
def element16 : State :=
  { State.reset with raster := { Raster.empty with view16 := [(131074, 0x01), (131075, 0x10)] } }

/-- The reset state with another configuration. -/
def withConfig (cfg : Config) : State :=
  { State.reset with config := cfg }

/-- The reset state with a queue. -/
def withQueue (events : List HostEvent) : State :=
  { State.reset with pending := events }

/-- A command word with operand words zero. -/
def opWord (op : BitVec 4) : CommandWords :=
  { op := op, t := 0, c := 0, a := 0, b := 0 }

/-- A configuration one of whose formats is changed. -/
def withFormat (code : Fin 64) (e : FmtEntry) : Config :=
  { defaultConfig with fmt := defaultConfig.fmt.set code.val e code.isLt }

/-- The next state of an outcome, and the state before where there is none. -/
def nextOr (s : State) : Outcome → State
  | .next t => t
  | .fault _ => s
  | .refused _ => s

/-- The fault of an outcome. -/
def faultOf : Outcome → Option Fault
  | .next _ => none
  | .fault f => some f
  | .refused _ => none

/-- The refusal of an outcome. -/
def refusalOf : Outcome → Option Refusal
  | .next _ => none
  | .fault _ => none
  | .refused r => some r

/-- The value an outcome's result holds. -/
def valueOf : Outcome → Option ResultValue
  | .next t => t.result.map CmdResult.value
  | .fault _ => none
  | .refused _ => none

/-- The outcome is a next state. -/
def isNext : Outcome → Bool
  | .next _ => true
  | .fault _ => false
  | .refused _ => false

-- Well-formedness: each check refuses an ill-formed term (00_scope.md R7; 30_encoding.md R71).

theorem test_default_config_is_well_formed : defaultConfig.wellFormed = true := by decide
theorem test_palette_of_5_is_ill_formed : (withFormat 3 ⟨.b8, 5⟩).wellFormed = false := by decide
theorem test_palette_on_16_bits_is_ill_formed : (withFormat 3 ⟨.b16, 16⟩).wellFormed = false := by decide
theorem test_palette_on_24_bits_is_ill_formed : (withFormat 3 ⟨.b24, 256⟩).wellFormed = false := by decide
theorem test_op_0_is_ill_formed : (opWord 0).wellFormed = false := by decide
theorem test_op_9_is_ill_formed : (opWord 9).wellFormed = false := by decide
theorem test_bad_config_is_refused :
    refusalOf (step (withConfig (withFormat 3 ⟨.b8, 5⟩))) = some .badConfig := by decide

-- Decoding: the words of EN1 to EN10, one at least for each constructor.

theorem test_decode_EN1_writeTest :
    decode { opWord 1 with t := 0x2000200001300000 } = .ok (.writeTest (tex 0x13 0x100 0 0 1) noC) := by decide
theorem test_decode_EN2_write :
    decode { opWord 2 with t := 0x0000200000000000 } = .ok (.write (tex 0x00 0x100 0 0 0) noC) := by decide
theorem test_decode_EN3_load :
    decode { opWord 3 with t := 0x4180080001400000, c := 0x5084 } =
      .ok (.load { tex 0x14 0x40 0 1 2 with csm := .gather } { cbw := 4, cou := 2, cov := 5 }) := by decide
theorem test_decode_EN4_read :
    decode { opWord 4 with t := 0x2310400001400000, a := 0x0000008000008040 } =
      .ok (.read (tex 0x14 0x200 2 3 1) { ta0 := 0x40, aem := true, ta1 := 0x80 }) := by decide
theorem test_decode_EN5_alphaMinMax : decode (opWord 5) = .ok .alphaMinMax := by decide
theorem test_decode_EN6_invalidate : decode (opWord 6) = .ok .invalidate := by decide
theorem test_decode_EN7_invalidateBlock :
    decode { opWord 7 with b := 0x11F } = .ok (.invalidateBlock 0x11F) := by decide
theorem test_decode_EN8_invalidateRange :
    decode { opWord 8 with b := 0x01030100 } = .ok (.invalidateRange 0x100 0x103) := by decide
theorem test_decode_EN9_reserved :
    [0x0, 0x9, 0xA, 0xB, 0xC, 0xD, 0xE, 0xF].all (fun op => decode (opWord op) = .error (.reservedOp op)) := by
  decide
theorem test_decode_EN10_ignored_bit :
    decode { opWord 1 with t := 0x2000200001300001 } = decode { opWord 1 with t := 0x2000200001300000 } := by decide
/-- Every field of T and C all ones, from the bit positions of 30_encoding.md R61 and R62. -/
theorem test_decode_all_ones :
    decode { op := 2, t := 0xFFFFFFE003F00000, c := 0x3FFFFF, a := 0, b := 0 } =
      .ok (.write { tex 0x3F 0x3FFF 0xF 31 7 with csm := .gather } { cbw := 63, cou := 63, cov := 1023 }) := by decide
/-- The layout of log 11: OP in bits 3:0, BLOCK from bit 4 on. -/
theorem test_decodeTableWord : decodeTableWord 68 (0x7 + 16 * 0x11F) = some (.invalidateBlock 0x11F) := by decide

-- One step per test, at most two tests per instruction.

/-- WT14: CLD 5, LC[1] differs and is updated, the snapshot matches: 0, and W.T is refreshed. -/
theorem test_writeTest_WT14 :
    let o := exec (.writeTest { t8 with cld := 5 } noC) (writeClean t8 noC)
    valueOf o = some (.reload false) ∧ (nextOr State.reset o).lc1 = 0x100 ∧ (nextOr State.reset o).wTex.cld = 5 := by
  decide
/-- WT20: CLD 4 and another base: 1, LC[0] updated, W.T not refreshed. -/
theorem test_writeTest_WT20 :
    let o := exec (.writeTest { t8 with cbp := 0x180, cld := 4 } noC) (writeClean t8 noC)
    valueOf o = some (.reload true) ∧ (nextOr State.reset o).lc0 = 0x180 ∧ (nextOr State.reset o).wTex = t8 := by
  decide
/-- WR8: D32_I4 at CSA 31, source element S32(2) = 4: the high half wraps to entry 242. -/
theorem test_write_WR8 :
    let u := nextOr State.reset (exec (.write (tex 0x14 0x100 0 31 0) noC) element32)
    clutAt u.clut 498 = 0x0004 ∧ clutAt u.clut 242 = 0x0400 := by
  decide +kernel
/-- WR10: D16_I8 at CSA 31, source element S16(16) = 1: entry 512 wraps to entry 0. -/
theorem test_write_WR10 :
    clutAt (nextOr State.reset (exec (.write (tex 0x13 0x100 2 31 0) noC) element16)).clut 0 = 0x1001 := by
  decide +kernel
/-- LD1: after reset, (1, OK). -/
theorem test_load_LD1 : valueOf (exec (.load t8 noC) State.reset) = some (.load true (some .ok)) := by decide
/-- LD3: a format that is not indexed, (0, NONE). -/
theorem test_load_LD3 :
    valueOf (exec (.load (tex 0x00 0x100 0 0 1) noC) State.reset) = some (.load false none) := by decide
/-- P2 after n = 1: entry 49 is 0x8002, so BUF32[1] is 0x80000010 and BUF64[0x10] holds it in its high half. -/
theorem test_read_P2 :
    let u := nextOr State.reset (exec (.read (tex 0x14 0x200 2 3 1) { ta0 := 0x40, aem := true, ta1 := 0x80 })
      (withEntry 49 0x8002))
    buf32At u.buf32 1 = 0x80000010 ∧ buf32At u.buf32 0 = 0 ∧ buf64At u.buf64 0x10 = 0x8000001000000000 := by
  decide +kernel
/-- P4 after n = 1: E32_I8 at CSA 14 clamps group 15 to entries 240..255. -/
theorem test_read_P4_clamp :
    let u := nextOr State.reset (exec (.read (tex 0x1B 0x300 1 14 0) noA) (withEntry 255 0xCCFF))
    buf32At u.buf32 255 = 0xCCFF ∧ buf32At u.buf32 31 = 0xCCFF ∧ buf32At u.buf32 15 = 0 := by
  decide +kernel
/-- S5: the fast path of D24. -/
theorem test_alphaMinMax_S5 :
    valueOf (exec .alphaMinMax (readClean (tex 0x13 0x100 1 0 1) { noA with ta0 := 0x33 })) =
      some (.alphaRange 0x33 0x33) := by
  decide
/-- 43_alpha_range.md R162: a scan of 16 entries, one with alpha 0x80, ignoring the entries from 16 on. -/
theorem test_alphaMinMax_scan :
    valueOf (exec .alphaMinMax { readClean (tex 0x14 0x100 0 0 1) noA with
      buf32 := (State.reset.buf32.set 7 0x80FFFFFF).set 16 0xFF000000 }) = some (.alphaRange 0x00 0x80) := by
  decide +kernel
/-- IV1. -/
theorem test_invalidate_IV1 :
    nextOr State.reset (exec .invalidate (writeClean t8 noC)) =
      { writeClean t8 noC with wDirty := true, cmdIndex := 1, result := some ⟨.nothing, []⟩ } := by
  rfl
/-- IB2 and IB3: block 0x11F is in group 8, block 0x120 is not. -/
theorem test_invalidateBlock_IB2 :
    (nextOr State.reset (exec (.invalidateBlock 0x11F) (writeClean t8 noC))).wDirty = true := by decide
theorem test_invalidateBlock_IB3 :
    (nextOr State.reset (exec (.invalidateBlock 0x120) (writeClean t8 noC))).wDirty = false := by decide
/-- IR4: START = base + footprint. -/
theorem test_invalidateRange_IR4 :
    (nextOr State.reset (exec (.invalidateRange 0x104 0x200) (writeClean t8 noC))).wDirty = false := by decide
/-- IR9: a footprint that passes block 0x3FFF does not wrap. -/
theorem test_invalidateRange_IR9 :
    (nextOr State.reset (exec (.invalidateRange 0x3FFF 0x3FFF) (writeClean { t8 with cbp := 0x3FFE } noC))).wDirty =
      true := by decide
/-- 70_reset_and_hazards.md R193: the first ALPHA_MINMAX after reset faults; it is the command the step takes. -/
theorem test_step_runs_the_placed_command :
    faultOf (step (State.reset.withFetchWord 8 0x5)) = some .alphaPrecond ∧
    isNext (step (State.reset.withFetchWord 8 0x6)) = true := by decide

-- Witnesses: the hypotheses of the statements, met together, clause by clause.

theorem test_witness_DecodeOfEncodeIsTheCommand :
    (Instr.write { tex 0x3F 0x3FFF 0xF 31 7 with csm := .gather } ⟨63, 63, 1023⟩).wellFormed = true ∧
    (Instr.read t8 ⟨0xFF, true, 0xFF⟩).wellFormed = true ∧ (Instr.invalidateRange 0 0x3FFF).wellFormed = true := by
  decide

/-- Two words that differ in every ignored bit, for a command of each operand form. -/
theorem test_witness_IgnoredBitsHaveNoEffect :
    [1, 4, 7, 8].all (fun op =>
      let w : CommandWords := { op := op, t := 0x2000200001300000, c := 0x5084, a := 0x0000008000008040, b := 0x3FFF3FFF }
      let v : CommandWords := { w with t := w.t ||| 0x0000001FFC0FFFFF, c := w.c ||| 0xFFFFFFFFFFC00000,
                                       a := w.a ||| 0xFFFFFF00FFFF7F00, b := w.b ||| 0xFFFFFFFFC000C000 }
      w.op = v.op ∧ w ≠ v ∧
      w.t &&& 0xFFFFFFE003F00000 = v.t &&& 0xFFFFFFE003F00000 ∧
      w.c &&& 0x00000000003FFFFF = v.c &&& 0x00000000003FFFFF ∧
      w.a &&& 0x000000FF000080FF = v.a &&& 0x000000FF000080FF ∧
      w.b &&& 0x000000003FFF3FFF = v.b &&& 0x000000003FFF3FFF) = true := by decide

/-- Each clause: the words a command reads agree, the others differ. -/
theorem test_witness_UnnamedWordsAreIgnored :
    decode { op := 1, t := 5, c := 6, a := 0, b := 0 } = decode { op := 1, t := 5, c := 6, a := 1, b := 1 } ∧
    decode { op := 3, t := 5, c := 6, a := 0, b := 0 } = decode { op := 3, t := 5, c := 6, a := 1, b := 1 } ∧
    decode { op := 4, t := 5, c := 0, a := 6, b := 0 } = decode { op := 4, t := 5, c := 1, a := 6, b := 1 } ∧
    decode { op := 5, t := 0, c := 0, a := 0, b := 0 } = decode { op := 5, t := 1, c := 1, a := 1, b := 1 } ∧
    decode { op := 6, t := 0, c := 0, a := 0, b := 0 } = decode { op := 6, t := 1, c := 1, a := 1, b := 1 } ∧
    decode { op := 7, t := 0, c := 0, a := 0, b := 5 } = decode { op := 7, t := 1, c := 1, a := 1, b := 5 } ∧
    decode { op := 8, t := 0, c := 0, a := 0, b := 5 } = decode { op := 8, t := 1, c := 1, a := 1, b := 5 } := by
  decide

theorem test_witness_StepRunsTheIssuedCommand :
    Live (withQueue [.command (opWord 6)]) ∧
    (withQueue [.command (opWord 6)]).pending = .command (opWord 6) :: [] ∧
    decode (opWord 6) = .ok .invalidate :=
  ⟨⟨by decide, by decide⟩, rfl, by decide⟩

theorem test_witness_RasterEventChangesOneByte :
    let s := { withQueue [.rasterByte .view16S 131074 0xFF] with raster := element16.raster }
    Live s ∧ s.raster.wf ∧ s.pending = .rasterByte .view16S 131074 0xFF :: [] :=
  ⟨⟨by decide, by decide⟩, by decide, rfl⟩

/-- An ill-formed configuration; and, for a well-formed one, a reserved OP at both ends of each reserved range, an
invalid and a valid alpha query, and the first and the last command. -/
theorem test_witness_OnlyAlphaQueryFaultsAndOnlyReservedOpIsRefused :
    (withConfig (withFormat 3 ⟨.b8, 5⟩)).config.wellFormed = false ∧
    (withQueue [.command (opWord 0)]).runOver = false ∧ (withQueue [.command (opWord 0)]).config.wellFormed = true ∧
    [0x0, 0x9, 0xF].all (fun op => (refusalOf (step (withQueue [.command (opWord op)]))).isSome) = true ∧
    faultOf (step (withQueue [.command (opWord 5)])) = some .alphaPrecond ∧
    isNext (step { readClean t8 noA with pending := [.command (opWord 5)] }) = true ∧
    [0x1, 0x8].all (fun op => isNext (step (withQueue [.command (opWord op)]))) = true := by
  decide

theorem test_witness_ReservedOpIsRefusedByName :
    (Live (withQueue [.command (opWord 0)]) ∧ (opWord 0).op = 0) ∧
    (Live (withQueue [.command (opWord 9)]) ∧ 9 ≤ (opWord 9).op.toNat) ∧
    (Live (withQueue [.command (opWord 0xF)]) ∧ 9 ≤ (opWord 0xF).op.toNat) :=
  ⟨⟨⟨by decide, by decide⟩, by decide⟩, ⟨⟨by decide, by decide⟩, by decide⟩, ⟨by decide, by decide⟩, by decide⟩

/-- A fault, a refused command, and a refused configuration, in runs that have not ended. -/
theorem test_witness_StopMarksTheRunAndChangesNothingElse :
    (withQueue [.command (opWord 5)]).runOver = false ∧
    step (withQueue [.command (opWord 5)]) = .fault .alphaPrecond ∧
    step (withQueue [.command (opWord 9)]) = .refused (.reservedOp 9) ∧
    step (withQueue [.foreignCommand (opWord 6)]) = .refused .secondAgent ∧
    (withConfig (withFormat 3 ⟨.b8, 5⟩)).runOver = false ∧
    step (withConfig (withFormat 3 ⟨.b8, 5⟩)) = .refused .badConfig :=
  ⟨rfl, rfl, rfl, rfl, rfl, rfl⟩

theorem test_witness_CommandIndexCountsAndIsNotRead :
    exec .invalidate State.reset = .next (State.reset.markWriteDirty.complete .nothing []) ∧
    exec .alphaMinMax State.reset = .fault .alphaPrecond :=
  ⟨rfl, rfl⟩

/-- `runs`, for codes 1, 2, 3, 4, 5, with the test dirty and clean; not `runs`, for codes 0, 6, 7, for 4 and 5 with
an equal base, and for a format that is not indexed. -/
theorem test_witness_WriteTestFollowsLoadControl :
    let s := { writeClean t8 noC with lc0 := 0x200 }
    (fmtOf s.config t8.psm).pal ≠ 0 ∧ s.lc0 ≠ t8.cbp ∧ s.lc1 ≠ t8.cbp ∧
    writeDirty s { t8 with cld := 5 } noC = false ∧ writeDirty s { t8 with cld := 4, csa := 1 } noC = true ∧
    (writeClean t8 noC).lc0 = t8.cbp ∧ { s with lc1 := 0x100 }.lc1 = t8.cbp ∧
    (fmtOf s.config (tex 0x00 0x100 0 0 2).psm).pal = 0 := by
  decide

theorem test_witness_WriteTestAroundAWriteReturnsOneThenZero :
    (fmtOf State.reset.config t8.psm).pal ≠ 0 ∧ t8.cld = 1 ∧ State.reset.wDirty = true := by
  decide

theorem test_witness_InvalidateSetsWriteDirtyOnly :
    ({ t8 with cld := 0 } : TexCfg).cld = 0 ∧ ({ t8 with cld := 6 } : TexCfg).cld = 6 ∧
    ({ t8 with cld := 7 } : TexCfg).cld = 7 := by
  decide

/-- FP4, FP3, FP2, FP1, and FP5, FP6, FP8, FP9. -/
theorem test_witness_FootprintHalvesWithBitDepths :
    (Is16 (depthOf defaultConfig 0x2) ∧ (fmtOf defaultConfig 0x14).bpp = .b4) ∧
    (Is16 (depthOf defaultConfig 0x2) ∧ (fmtOf defaultConfig 0x13).bpp ≠ .b4) ∧
    (¬ Is16 (depthOf defaultConfig 0x0) ∧ (fmtOf defaultConfig 0x14).bpp = .b4) ∧
    (¬ Is16 (depthOf defaultConfig 0x0) ∧ (fmtOf defaultConfig 0x13).bpp ≠ .b4) ∧
    (Is16 (depthOf defaultConfig 0xA) ∧ (fmtOf defaultConfig 0x14).bpp = .b4) ∧
    (¬ Is16 (depthOf defaultConfig 0x0) ∧ (fmtOf defaultConfig 0x2C).bpp ≠ .b4) ∧
    (Is16 (depthOf defaultConfig 0xA) ∧ (fmtOf defaultConfig 0x1B).bpp ≠ .b4) ∧
    (¬ Is16 (depthOf defaultConfig 0x3) ∧ (fmtOf defaultConfig 0x14).bpp = .b4) := by
  unfold Is16
  decide

/-- The edges of group 8 (IB2, IB3, IB4). -/
theorem test_witness_InvalidateBlockTestsTheGroup :
    (0x11F : BlockNum).toNat / 32 = t8.cbp.toNat / 32 ∧ (0x100 : BlockNum).toNat / 32 = t8.cbp.toNat / 32 ∧
    (0x120 : BlockNum).toNat / 32 ≠ t8.cbp.toNat / 32 ∧ (0x0FF : BlockNum).toNat / 32 ≠ t8.cbp.toNat / 32 := by
  decide

/-- IR2, IR3: blocks 0x100 and 0x103 are the ends of the footprint; IR1 and IR4: 0xFF and 0x104 lie outside. -/
theorem test_witness_InvalidateRangeMeetsTheFootprint :
    (∃ b : Nat, t8.cbp.toNat ≤ b ∧ b < t8.cbp.toNat + footprint defaultConfig t8 ∧ 0x0FF ≤ b ∧ b ≤ 0x100) ∧
    (∃ b : Nat, t8.cbp.toNat ≤ b ∧ b < t8.cbp.toNat + footprint defaultConfig t8 ∧ 0x103 ≤ b ∧ b ≤ 0x103) ∧
    t8.cbp.toNat = 0x100 ∧ footprint defaultConfig t8 = 4 :=
  ⟨⟨0x100, by decide⟩, ⟨0x103, by decide⟩, by decide, by decide⟩

theorem test_witness_InvalidationForcesTheNextReload :
    let s := writeClean t8 noC
    let u := s.markWriteDirty.complete .nothing []
    exec .invalidate s = .next u ∧ exec (.invalidateBlock 0x11F) s = .next u ∧
    exec (.invalidateRange 0x103 0x103) s = .next u ∧ u.wDirty = true ∧ (fmtOf s.config t8.psm).pal ≠ 0 ∧
    t8.cbp = s.lc0 ∧ t8.cbp ≠ s.lc1 :=
  ⟨rfl, rfl, rfl, rfl, by decide, by decide, by decide⟩

/-- A format of each palette size in a well-formed FMT; and the rows' depths. -/
theorem test_witness_DispatchTableIsTotal :
    defaultConfig.wellFormed = true ∧ (fmtOf defaultConfig 0x13).pal = 256 ∧ (fmtOf defaultConfig 0x14).pal = 16 ∧
    (fmtOf defaultConfig 0x3F).pal = 0 ∧
    Is32 .d32 ∧ Is32 .d24 ∧ Is16 .d16 ∧ Is16 .d16s ∧ ¬ Is32 .other ∧ ¬ Is16 .other ∧ ¬ Is16 .d24 ∧ ¬ Is32 .d16 := by
  unfold Is32 Is16
  decide

/-- A depth that is OTHER (WR13), and a format that is not indexed (WR12). -/
theorem test_witness_UnsupportedWriteIsALoggedNoOp :
    depthOf State.reset.config (tex 0x13 0x100 0x3 0 1).cpsm = .other ∧
    indexWidth State.reset.config (tex 0x00 0x100 0x0 0 1).psm = .none := by
  decide

/-- Both ends of each range. -/
theorem test_witness_PermutationsEqualTheirBitFormulas :
    s32 0 = 0 ∧ s32 255 = 255 ∧ s32 2 = 4 ∧ s32 16 = 64 ∧ s16 0 = 0 ∧ s16 255 = 255 ∧ s16 1 = 2 ∧ s16 16 = 1 := by
  decide

/-- Both placements, at CSA 0, 15, 16 and 31: an entry of the filled part (255 at CSA 15) and one below it (239). -/
theorem test_witness_Direct32Index8FillsFromTheStorageOffset :
    [0, 15, 16, 31].all (fun csa => (tex 0x13 0x100 0x0 csa 1).csm = .direct ∧
      depthOf State.reset.config (tex 0x13 0x100 0x0 csa 1).cpsm = .d32 ∧
      indexWidth State.reset.config (tex 0x13 0x100 0x0 csa 1).psm = .i8) = true ∧
    State.reset.config.t32I8Write = .absolute ∧
    (withConfig { defaultConfig with t32I8Write := .relative }).config.t32I8Write = .relative ∧
    depthOf State.reset.config 0x1 = .d24 ∧
    16 * (15 : BitVec 5).toNat ≤ 240 ∧ 239 < 16 * (15 : BitVec 5).toNat := by
  decide

/-- CSA 31, where the high half-words wrap; entry 0 is written at CSA 0 and not at CSA 31. -/
theorem test_witness_Direct32Index4LoadsSixteenColours :
    let t := tex 0x14 0x100 0x0 31 1
    (t.csm = .direct ∧ Is32 (depthOf State.reset.config t.cpsm) ∧ indexWidth State.reset.config t.psm = .i4) ∧
    ∀ j, j < 16 → (16 * t.csa.toNat + j) % 512 ≠ 0 ∧ (16 * t.csa.toNat + j + 256) % 512 ≠ 0 := by
  unfold Is32
  decide

/-- Both views, at CSA 31: entry 240 is not written (WR10). -/
theorem test_witness_Direct16Index8LoadsAndWraps :
    let t := tex 0x13 0x100 0x2 31 1
    (t.csm = .direct ∧ Is16 (depthOf State.reset.config t.cpsm) ∧ indexWidth State.reset.config t.psm = .i8) ∧
    depthOf State.reset.config t.cpsm = .d16 ∧ depthOf State.reset.config 0xA = .d16s ∧
    ∀ k, k < 256 → (16 * t.csa.toNat + k) % 512 ≠ 240 := by
  unfold Is16
  decide +kernel

/-- Both views, at CSA 3: entries 47 and 64 are not written (WR11). -/
theorem test_witness_Direct16Index4LoadsSixteenEntries :
    let t := tex 0x14 0x100 0xA 3 1
    (t.csm = .direct ∧ Is16 (depthOf State.reset.config t.cpsm) ∧ indexWidth State.reset.config t.psm = .i4) ∧
    depthOf State.reset.config t.cpsm = .d16s ∧ depthOf State.reset.config 0x2 = .d16 ∧
    47 < 16 * t.csa.toNat ∧ 16 * t.csa.toNat + 16 ≤ 64 := by
  unfold Is16
  decide

/-- Both index widths and both bases, at CSA 17 (GA1, GA2); entry 0 is not written with MOD16. -/
theorem test_witness_Gather32SplitsIntoTwoPlanes :
    let t := { tex 0x14 0x40 0x0 17 1 with csm := .gather }
    (t.csm = .gather ∧ Is32 (depthOf State.reset.config t.cpsm)) ∧
    indexWidth State.reset.config t.psm = .i4 ∧ indexWidth State.reset.config 0x13 = .i8 ∧
    (State.reset.config.gather32Base = .mod16 ∧ 16 = 16 * (t.csa.toNat % 16)) ∧
    (withConfig { defaultConfig with gather32Base := .zero }).config.gather32Base = .zero ∧
    ∀ i, i < 16 → (16 + i) % 512 ≠ 0 ∧ (16 + i + 256) % 512 ≠ 0 := by
  unfold Is32
  decide

/-- Both index widths, at CSA 31: with 16 entries, entry 0 is not written. -/
theorem test_witness_Gather16CopiesAtTheStorageOffset :
    let t := { tex 0x14 0x40 0x2 31 1 with csm := .gather }
    (t.csm = .gather ∧ Is16 (depthOf State.reset.config t.cpsm)) ∧
    indexWidth State.reset.config t.psm = .i4 ∧ indexWidth State.reset.config 0x13 = .i8 ∧
    ∀ i, i < 16 → (16 * t.csa.toNat + i) % 512 ≠ 0 := by
  unfold Is16
  decide

/-- Both outcomes of the WRITE_TEST in LOAD. -/
theorem test_witness_LoadIsWriteTestThenWrite :
    valueOf (exec (.writeTest t8 noC) State.reset) = some (.reload true) ∧
    valueOf (exec (.writeTest t8 noC) (writeClean t8 noC)) = some (.reload false) := by
  decide

/-- A 4-bit format at a 16-bit depth, footprint 1: two images that differ in block 0x101, outside it. -/
theorem test_witness_DirectWriteReadsOnlyItsFootprint :
    let t := tex 0x14 0x100 0x2 0 1
    let r := { Raster.empty with view16 := [(131328, 0xFF)] }
    t.csm = .direct ∧
    ((fmtOf State.reset.config t.psm).bpp = .b4 → (fmtOf State.reset.config t.psm).pal ≠ 256) ∧
    AgreeOnBlocks State.reset.raster r t.cbp (footprint State.reset.config t) ∧ r ≠ State.reset.raster ∧
    r.blkRead16 0x100 128 = 0x00FF := by
  unfold AgreeOnBlocks
  decide +kernel

/-- A hit with the same operands, and RD1: TA0 changed under D32. -/
theorem test_witness_ReadHitRefreshesTheSnapshotOnly :
    readDirty (readClean t8 noA) t8 noA = false ∧ readDirty (readClean t8 noA) t8 { noA with ta0 := 0x11 } = false := by
  decide

theorem test_witness_ReadMissRecordsTheSnapshot :
    readDirty State.reset t8 noA = true ∧ readDirty (readClean t8 noA) { t8 with csa := 1 } noA = true := by
  decide

/-- CSA 14 clamps group 15 and not group 1. -/
theorem test_witness_Expand32Index8ClampsPerGroup :
    let t := tex 0x13 0x100 0x0 14 1
    (readDirty State.reset t noA = true ∧ Is32 (depthOf State.reset.config t.cpsm) ∧
      indexWidth State.reset.config t.psm = .i8) ∧
    t.csa.toNat + 1 ≤ 15 ∧ ¬ t.csa.toNat + 15 ≤ 15 := by
  unfold Is32
  decide

theorem test_witness_Expand32Index4RewritesSixteenAndReplicates :
    let t := tex 0x14 0x100 0x1 31 1
    readDirty State.reset t noA = true ∧ Is32 (depthOf State.reset.config t.cpsm) ∧
      indexWidth State.reset.config t.psm = .i4 := by
  unfold Is32
  decide

theorem test_witness_Expand16Index8WidensAllEntries :
    let t := tex 0x13 0x100 0xA 31 1
    readDirty State.reset t noA = true ∧ Is16 (depthOf State.reset.config t.cpsm) ∧
      indexWidth State.reset.config t.psm = .i8 := by
  unfold Is16
  decide

theorem test_witness_Expand16Index4WidensAndReplicates :
    let t := tex 0x14 0x100 0x2 31 1
    readDirty State.reset t noA = true ∧ Is16 (depthOf State.reset.config t.cpsm) ∧
      indexWidth State.reset.config t.psm = .i4 := by
  unfold Is16
  decide

theorem test_witness_ReadMissWithoutPathKeepsTheBuffers :
    (readDirty State.reset (tex 0x13 0x100 0x3 0 1) noA = true ∧ depthOf State.reset.config 0x3 = .other) ∧
    (readDirty State.reset (tex 0x00 0x100 0x0 0 1) noA = true ∧ indexWidth State.reset.config 0x00 = .none) := by
  decide

/-- Exclusion of a zero entry, and both alpha bytes, with exclusion on and off. -/
theorem test_witness_ExpandedEntryLayout :
    (({ noA with aem := true } : AlphaCfg).aem = true ∧ (0 : Half) = 0) ∧
    (¬ (noA.aem = true ∧ (0 : Half) = 0) ∧ (0 : Half).getLsbD 15 = false) ∧
    (¬ (({ noA with aem := true } : AlphaCfg).aem = true ∧ (0x8000 : Half) = 0) ∧ (0x8000 : Half).getLsbD 15 = true) ∧
    (¬ (({ noA with aem := true } : AlphaCfg).aem = true ∧ (0x7FFF : Half) = 0) ∧
      (0x7FFF : Half).getLsbD 15 = false) := by
  decide

/-- Entries other than the two written ones, at both ends of the store. -/
theorem test_witness_PairInvertsStore :
    0 % 512 ≠ 511 % 512 ∧ 0 % 512 ≠ (511 + 256) % 512 ∧ 256 % 512 ≠ 511 % 512 ∧ 256 % 512 ≠ (511 + 256) % 512 := by
  decide

theorem test_witness_WriteThenReadReturnsTheColours :
    t8.csm = .direct ∧ Is32 (depthOf State.reset.config t8.cpsm) ∧ indexWidth State.reset.config t8.psm = .i8 ∧
    t8.csa = 0 := by
  unfold Is32
  decide

theorem test_witness_WriteThenReadFourBitIndexAtEveryOffset :
    [0, 16, 31].all (fun csa => let t := tex 0x14 0x100 0x0 csa 1
      t.csm = .direct ∧ depthOf State.reset.config t.cpsm = .d32 ∧ indexWidth State.reset.config t.psm = .i4) =
      true := by
  decide

/-- PSMT8H, PSMT4HL and PSMCT32 have bit depth 32. -/
theorem test_witness_EqualBitDepthSwitchIsAHit :
    (fmtOf State.reset.config 0x1B).bpp = (fmtOf State.reset.config 0x24).bpp ∧
    (fmtOf State.reset.config 0x1B).bpp = (fmtOf State.reset.config 0x00).bpp := by
  decide

/-- F_ALPHA_PRECOND; F_ALPHA_PAL by the depth and by the format. -/
theorem test_witness_AlphaQueryFaultsInOrder :
    State.reset.rDirty = true ∧
    ((readClean (tex 0x13 0x100 0x3 0 1) noA).rDirty = false ∧ depthOf State.reset.config 0x3 = .other) ∧
    ((readClean (tex 0x00 0x100 0x0 0 1) noA).rDirty = false ∧ (fmtOf State.reset.config 0x00).pal ≠ 16 ∧
      (fmtOf State.reset.config 0x00).pal ≠ 256) := by
  decide

theorem test_witness_AlphaFastPathReturnsTheFirstAlphaByte :
    let s := readClean (tex 0x13 0x100 0x1 0 1) noA
    AlphaQueryValid s ∧ depthOf s.config s.rTex.cpsm = .d24 ∧ s.rAlpha.aem = false ∧
    readDirty s (tex 0x13 0x100 0x1 0 1) { noA with ta1 := 7 } = false := by
  unfold AlphaQueryValid
  decide

/-- D24 with exclusion on is off the fast path; so is D32. 256 and 16 entries. -/
theorem test_witness_AlphaScanReturnsTheExactRange :
    let s := readClean (tex 0x13 0x100 0x1 0 1) { noA with aem := true }
    let u := readClean (tex 0x14 0x100 0x0 0 1) noA
    (AlphaQueryValid s ∧ ¬ (depthOf s.config s.rTex.cpsm = .d24 ∧ s.rAlpha.aem = false) ∧ s.rAlphaDirty = true) ∧
    (AlphaQueryValid u ∧ ¬ (depthOf u.config u.rTex.cpsm = .d24 ∧ u.rAlpha.aem = false) ∧ u.rAlphaDirty = true) := by
  unfold AlphaQueryValid
  decide

theorem test_witness_AlphaMemoIsReturnedWithoutAScan :
    let s := { readClean t8 noA with rAlphaDirty := false, rAmin := 0x10, rAmax := 0x20 }
    AlphaQueryValid s ∧ ¬ (depthOf s.config s.rTex.cpsm = .d24 ∧ s.rAlpha.aem = false) ∧ s.rAlphaDirty = false := by
  unfold AlphaQueryValid
  decide

/-- Every command ends in a next state somewhere. -/
theorem test_witness_NoCommandWritesRasterMemory :
    [Instr.writeTest t8 noC, .write t8 noC, .load t8 noC, .read t8 noA, .alphaMinMax, .invalidate,
      .invalidateBlock 0x3FFF, .invalidateRange 0 0x3FFF].all (fun i => isNext (exec i (readClean t8 noA))) = true := by
  decide

/-- INVALIDATE, which meets every clause's premise but one; and for that one, who sets W.dirty, a READ from a state
where it is set. -/
theorem test_witness_StateElementsHaveOnlyTheirWriters :
    exec .invalidate (writeClean t8 noC) = .next ((writeClean t8 noC).markWriteDirty.complete .nothing []) ∧
    (∀ x c, Instr.invalidate ≠ .write x c ∧ Instr.invalidate ≠ .load x c ∧ Instr.invalidate ≠ .writeTest x c) ∧
    (∀ x a, Instr.invalidate ≠ .read x a) ∧ Instr.invalidate ≠ .alphaMinMax ∧
    Instr.read t8 noA ≠ .invalidate ∧ (∀ b, Instr.read t8 noA ≠ .invalidateBlock b) ∧
    (∀ a b, Instr.read t8 noA ≠ .invalidateRange a b) ∧
    isNext (exec (.read t8 noA) State.reset) = true ∧
    (nextOr (writeClean t8 noC) (exec (.read t8 noA) State.reset)).wDirty = true :=
  ⟨rfl, by intros; simp, by intros; simp, by simp, by simp, by intros; simp, by intros; simp, by decide, by decide⟩

theorem test_witness_RasterMemoryIsSeenOnlyByWrites :
    (∀ x c, Instr.alphaMinMax ≠ .write x c ∧ Instr.alphaMinMax ≠ .load x c) ∧
    isNext (exec .alphaMinMax (readClean t8 noA)) = true ∧ exec .alphaMinMax State.reset = .fault .alphaPrecond :=
  ⟨by intros; simp, by decide, rfl⟩

theorem test_witness_ResetLeavesTheTrackersDirty :
    (fmtOf defaultConfig t8.psm).pal ≠ 0 ∧ t8.cld = 1 ∧ ({ t8 with cld := 3 } : TexCfg).cld = 3 := by
  decide

/-- A state whose memo is fresh: every alpha byte is 0, and so are both ends of the memo. -/
theorem test_witness_EveryStepKeepsTheInvariant :
    let s := { readClean t8 noA with rAlphaDirty := false, pending := [.command (opWord 6)] }
    Inv s ∧ isNext (step s) = true := by
  refine ⟨⟨⟨by decide, by decide⟩, by decide, fun _ => .inr ?_⟩, by decide⟩
  decide +kernel

theorem test_witness_ResetMeetsTheInvariant :
    defaultConfig.wellFormed = true ∧ element16.raster.wf := by
  decide

/-- A current expansion of a format whose bit depth fixes its palette (PSMT8), and a step from there. -/
theorem test_witness_EveryStepKeepsTheExpansionFresh :
    let s := { readClean t8 noA with pending := [.command (opWord 6)] }
    s.rDirty = false ∧ BppFixesPalette s.config s.rTex.psm ∧
    AlphaCompared s.config (depthOf s.config s.rTex.cpsm) ∧ ExpansionIsFresh s ∧ isNext (step s) = true := by
  refine ⟨rfl, ?_, ?_, fun _ _ _ => ⟨?_, ?_⟩, by decide⟩
  · unfold BppFixesPalette
    decide +kernel
  · intro h
    rfl
  · decide +kernel
  · decide +kernel

/-- Two states that differ in all three unobservable places; and two choices of the open reset contents. -/
theorem test_witness_UnobservableContentsChangeNoResult :
    let s := State.reset
    let t := { State.reset with wTex := t8, rTex := t8, rAmin := 0x12 }
    SameButUnobservable s t ∧ s ≠ t ∧
    ({ Init.zero with wTex := t8 } : Init).clut = Init.zero.clut ∧
    ({ Init.zero with wTex := t8 } : Init).lc0 = Init.zero.lc0 := by
  refine ⟨⟨rfl, ⟨rfl, rfl⟩, ⟨rfl, rfl⟩, rfl, nofun, rfl, nofun, rfl, nofun, rfl, rfl, rfl, rfl, rfl, rfl, rfl⟩,
    fun h => ?_, rfl, rfl⟩
  exact absurd (congrArg State.rAmin h) (by decide)

end Sys2Proof.Tests
end

namespace Sys2Proof.Proofs.Scope
open Sys2Proof.Machine

/-- Settles O5 by the model's rule for one command of the host: the state it executes in is `takeEvent`'s, whose
definition is the record update of the statement. -/
theorem stepRunsTheIssuedCommand : Obligations.StepRunsTheIssuedCommand := by
  unfold Obligations.StepRunsTheIssuedCommand
  intro s w rest i hlive hpending hdecode
  calc step s
      _ = exec i (s.takeEvent rest) := step_command s w rest i hlive hpending hdecode
      _ = exec i { s with pending := rest } := rfl

end Sys2Proof.Proofs.Scope

namespace Sys2Proof.Proofs.RasterMemory
open Sys2Proof.Machine

-- R46: what a command leaves in raster memory.

/-- WRITE replaces the Palette Store and its own flags; its routine only reads the raster image. -/
@[simp] theorem writePalette_raster (s : State) (t : TexCfg) (c : GatherCfg) :
    (writePalette s t c).1.raster = s.raster := by
  simp [writePalette_fst]

@[simp] theorem writeTest_raster (s : State) (t : TexCfg) (c : GatherCfg) :
    (writeTest s t c).2.raster = s.raster := by
  simp [writeTest_frame s t c]

@[simp] theorem runPath_raster (path : ExpandPath) (s : State) (t : TexCfg) (a : AlphaCfg) :
    (runPath path s t a).raster = s.raster := by
  obtain ⟨x, y, h⟩ := runPath_eq path s t a
  simp [h]

/-- No command has a `MemWrite`: the image after a command, resolver included, is the one before it. -/
theorem exec_raster {i : Instr} {s u : State} (h : exec i s = .next u) : u.raster = s.raster := by
  cases i with
  | writeTest t c => simp [writeTest_next h]
  | write t c => simp [write_next h]
  | load t c => obtain ⟨_, rfl⟩ | ⟨_, rfl⟩ := load_next h <;> simp
  | read t a => obtain ⟨_, rfl⟩ | ⟨_, rfl⟩ := read_next h <;> simp
  | alphaMinMax =>
    obtain ⟨_, ⟨_, rfl⟩ | ⟨_, _, rfl⟩ | ⟨_, _, rfl⟩⟩ := alphaMinMax_next h <;> simp
  | invalidate => simp [invalidate_next h]
  | invalidateBlock block =>
    rw [invalidateBlock_next h]
    split <;> simp
  | invalidateRange first last =>
    rw [invalidateRange_next h]
    split <;> simp

/-- Settles O48: every command keeps the whole raster image, so it keeps each byte and each answer of the resolver. -/
theorem noCommandWritesRasterMemory : Obligations.NoCommandWritesRasterMemory := by
  unfold Obligations.NoCommandWritesRasterMemory
  intro i s t h
  have hr : t.raster = s.raster := exec_raster h
  exact ⟨fun space address => by rw [hr], fun key => by rw [hr]⟩

-- R53, R182: a step that takes no command.

theorem step_idle {s : State} (h : Safety.Live s) (hp : s.pending = []) : step s = .next s := by
  obtain ⟨hrun, hcfg⟩ := h
  simp [step, nextEvent, hrun, hcfg, hp]

theorem step_rasterByte {s : State} {rest : List HostEvent} {space : RasterSpace} {address : Nat} {value : Byte}
    (h : Safety.Live s) (hp : s.pending = .rasterByte space address value :: rest) :
    step s = .next ((s.takeEvent rest).setRaster (s.raster.writeByte space address value)) := by
  obtain ⟨hrun, hcfg⟩ := h
  simp [step, nextEvent, hrun, hcfg, hp, runEvent]

/-- Settles O6: the state after the event is `setRaster` of `takeEvent`, and the image after a byte's write is read
by `Raster.readByte_writeByte` and `Raster.readResolver_writeByte`. -/
theorem rasterEventChangesOneByte : Obligations.RasterEventChangesOneByte := by
  unfold Obligations.RasterEventChangesOneByte
  intro s rest space address value hlive hwf hpending
  have hread := s.raster.readByte_writeByte hwf space
  refine ⟨step_idle hlive rfl, _, step_rasterByte hlive hpending, rfl, ?_, ?_, ?_, rfl⟩
  · simp [hread]
  · intro space' address' hne
    have hother : ¬ (space' = space ∧ address' = address) := by simpa using hne
    simp [hread, hother]
  · simp

-- R53: the commands that do not look at raster memory commute with a change of it.

/-- An outcome with its next state changed by `f`; a fault or a refusal carries no state. -/
def mapNext (f : State → State) : Outcome → Outcome
  | .next t => .next (f t)
  | .fault e => .fault e
  | .refused e => .refused e

section
variable (s : State) (r : Raster)

@[simp] theorem writeDirty_setRaster (t : TexCfg) (c : GatherCfg) :
    writeDirty (s.setRaster r) t c = writeDirty s t c := rfl

@[simp] theorem readDirty_setRaster (t : TexCfg) (a : AlphaCfg) :
    readDirty (s.setRaster r) t a = readDirty s t a := rfl

theorem writeDirtyTest_setRaster (t : TexCfg) (c : GatherCfg) :
    writeDirtyTest (s.setRaster r) t c = Prod.map id (·.setRaster r) (writeDirtyTest s t c) := by
  rw [writeDirtyTest_eq, writeDirtyTest_eq, writeDirty_setRaster]
  cases writeDirty s t c <;> rfl

theorem writeLc_setRaster (slot : LcSlot) (v : BlockNum) :
    (s.setRaster r).writeLc slot v = (s.writeLc slot v).setRaster r := by
  cases slot <;> rfl

theorem readLc_setRaster (slot : LcSlot) : (s.setRaster r).readLc slot = s.readLc slot := by
  cases slot <;> rfl

theorem writeTest_setRaster (t : TexCfg) (c : GatherCfg) :
    writeTest (s.setRaster r) t c = Prod.map id (·.setRaster r) (writeTest s t c) := by
  simp only [writeTest, State.setRaster_config, readLc_setRaster, writeLc_setRaster, writeDirtyTest_setRaster]
  split
  · rfl
  · split
    · rfl
    · rfl
    · rfl
    · split <;> rfl

theorem execWriteTest_setRaster (t : TexCfg) (c : GatherCfg) :
    execWriteTest t c (s.setRaster r) = mapNext (·.setRaster r) (execWriteTest t c s) := by
  simp only [execWriteTest, writeTest_setRaster]
  rfl

theorem runPath_setRaster (path : ExpandPath) (t : TexCfg) (a : AlphaCfg) :
    runPath path (s.setRaster r) t a = (runPath path s t a).setRaster r := by
  cases path <;> rfl

theorem execRead_setRaster (t : TexCfg) (a : AlphaCfg) :
    execRead t a (s.setRaster r) = mapNext (·.setRaster r) (execRead t a s) := by
  have hbegin : (s.setRaster r).beginExpand t a = (s.beginExpand t a).setRaster r := rfl
  simp only [execRead, hbegin, readDirty_setRaster, State.setRaster_config, runPath_setRaster]
  split <;> rfl

/-- ALPHA_MINMAX's tests read the configuration, the Read Snapshot and the flags, so they branch alike in both
states, and no branch reads the image. -/
theorem execAlphaMinMax_setRaster :
    execAlphaMinMax (s.setRaster r) = mapNext (·.setRaster r) (execAlphaMinMax s) := by
  simp only [execAlphaMinMax, apply_ite (mapNext _)]
  rfl

theorem ite_markWriteDirty_setRaster (p : Prop) [Decidable p] :
    (if p then (s.setRaster r).markWriteDirty else s.setRaster r) =
      (if p then s.markWriteDirty else s).setRaster r := by
  split <;> rfl

theorem execInvalidateBlock_setRaster (block : BlockNum) :
    execInvalidateBlock block (s.setRaster r) = mapNext (·.setRaster r) (execInvalidateBlock block s) := by
  simp only [execInvalidateBlock, ite_markWriteDirty_setRaster]
  rfl

theorem execInvalidateRange_setRaster (first last : BlockNum) :
    execInvalidateRange first last (s.setRaster r) =
      mapNext (·.setRaster r) (execInvalidateRange first last s) := by
  simp only [execInvalidateRange, ite_markWriteDirty_setRaster]
  rfl

/-- The whole outcome, a fault included, is the one of the old image; a next state carries the new image along. -/
theorem exec_setRaster (i : Instr) (hi : ∀ x c, i ≠ .write x c ∧ i ≠ .load x c) :
    exec i (s.setRaster r) = mapNext (·.setRaster r) (exec i s) := by
  cases i with
  | writeTest t c => exact execWriteTest_setRaster s r t c
  | write t c => exact absurd rfl (hi t c).1
  | load t c => exact absurd rfl (hi t c).2
  | read t a => exact execRead_setRaster s r t a
  | alphaMinMax => exact execAlphaMinMax_setRaster s r
  | invalidate => rfl
  | invalidateBlock block => exact execInvalidateBlock_setRaster s r block
  | invalidateRange first last => exact execInvalidateRange_setRaster s r first last

end

/-- Settles O50: every command but WRITE and LOAD commutes with replacing the raster image. -/
theorem rasterMemoryIsSeenOnlyByWrites : Obligations.RasterMemoryIsSeenOnlyByWrites := by
  unfold Obligations.RasterMemoryIsSeenOnlyByWrites
  intro i s r hi
  have hcomm := exec_setRaster s r i hi
  exact ⟨fun t h => hcomm.trans (congrArg _ h), fun f h => hcomm.trans (congrArg _ h)⟩

end Sys2Proof.Proofs.RasterMemory

namespace Sys2Proof.Proofs.WriteTracker
open Sys2Proof.Machine Sys2Proof.Safety

-- R80: what WRITE_TEST does, per load-control code.

/-- The load-control code of an indexed format lets the dirty test run. -/
def TestRuns (s : State) (t : TexCfg) : Prop :=
  (fmtOf s.config t.psm).pal ≠ 0 ∧
    match loadRule t.cld with
    | .never => False
    | .always => True
    | .record _ => True
    | .ifDiffers slot => s.readLc slot ≠ t.cbp

/-- The base recorded in the slot the load-control code names, if it names one. -/
def recordBase (s : State) (t : TexCfg) : State :=
  match loadRule t.cld with
  | .never => s
  | .always => s
  | .record slot => s.writeLc slot t.cbp
  | .ifDiffers slot => s.writeLc slot t.cbp

/-- The load-control code names the slot as the one to record in. -/
def NamesSlot (cld : BitVec 3) (slot : LcSlot) : Prop :=
  loadRule cld = .record slot ∨ loadRule cld = .ifDiffers slot

theorem readLc_writeLc (s : State) (slot slot' : LcSlot) (v : BlockNum) :
    (s.writeLc slot v).readLc slot' = if slot' = slot then v else s.readLc slot' := by
  cases slot <;> cases slot' <;> rfl

section
variable {s : State} {t : TexCfg} (c : GatherCfg)

theorem writeTest_of_runs (h : TestRuns s t) :
    writeTest s t c =
      (writeDirty s t c, if writeDirty s t c then recordBase s t else (recordBase s t).refreshWrite t c) := by
  obtain ⟨hpal, hrule⟩ := h
  unfold writeTest recordBase
  rw [if_neg hpal]
  cases hcode : loadRule t.cld with
  | never => simp [hcode] at hrule
  | always => exact writeDirtyTest_eq s t c
  | record slot => simp [writeDirtyTest_eq]
  | ifDiffers slot =>
    have hne : s.readLc slot ≠ t.cbp := by simpa [hcode] using hrule
    simp [hne, writeDirtyTest_eq]

theorem writeTest_of_not_runs (h : ¬ TestRuns s t) : writeTest s t c = (false, s) := by
  unfold writeTest
  split
  · rfl
  · next hpal =>
    unfold TestRuns at h
    cases hcode : loadRule t.cld with
    | never => rfl
    | always => exact absurd ⟨hpal, by simp [hcode]⟩ h
    | record slot => exact absurd ⟨hpal, by simp [hcode]⟩ h
    | ifDiffers slot =>
      have heq : s.readLc slot = t.cbp := by simpa [hpal, hcode] using h
      exact if_pos heq

theorem writeTest_fst_iff :
    (writeTest s t c).1 = true ↔ TestRuns s t ∧ writeDirty s t c = true := by
  by_cases h : TestRuns s t
  · simp [writeTest_of_runs c h, h]
  · simp [writeTest_of_not_runs c h, h]

end

/-- The eight load-control codes. -/
theorem cld_cases (x : BitVec 3) :
    x = 0 ∨ x = 1 ∨ x = 2 ∨ x = 3 ∨ x = 4 ∨ x = 5 ∨ x = 6 ∨ x = 7 := by
  revert x
  decide

/-- R80's table of codes: 1 to 3 run the test always, 4 and 5 when the base differs, 0, 6 and 7 never. -/
theorem testRuns_iff (s : State) (t : TexCfg) :
    TestRuns s t ↔ (fmtOf s.config t.psm).pal ≠ 0 ∧
      (t.cld = 1 ∨ t.cld = 2 ∨ t.cld = 3 ∨ (t.cld = 4 ∧ s.lc0 ≠ t.cbp) ∨ (t.cld = 5 ∧ s.lc1 ≠ t.cbp)) := by
  unfold TestRuns
  rcases cld_cases t.cld with h | h | h | h | h | h | h | h <;> simp [h, loadRule]

theorem namesSlot_slot0 (cld : BitVec 3) : NamesSlot cld .slot0 ↔ cld = 2 ∨ cld = 4 := by
  unfold NamesSlot
  rcases cld_cases cld with h | h | h | h | h | h | h | h <;> simp [h, loadRule]

theorem namesSlot_slot1 (cld : BitVec 3) : NamesSlot cld .slot1 ↔ cld = 3 ∨ cld = 5 := by
  unfold NamesSlot
  rcases cld_cases cld with h | h | h | h | h | h | h | h <;> simp [h, loadRule]

theorem recordBase_writeSnapshot (s : State) (t : TexCfg) : SameWriteSnapshot s (recordBase s t) := by
  unfold recordBase SameWriteSnapshot
  cases loadRule t.cld <;> simp

section
variable (s : State) (t : TexCfg) (c : GatherCfg)

/-- The state WRITE_TEST ends in. -/
def afterTest : State :=
  (writeTest s t c).2.complete (.reload (writeTest s t c).1) []

theorem exec_writeTest : exec (.writeTest t c) s = .next (afterTest s t c) := rfl

theorem afterTest_completed : Completed s (afterTest s t c) (.reload (writeTest s t c).1) [] := by
  simp [Completed, afterTest, writeTest_frame s t c]

theorem afterTest_frame :
    (afterTest s t c).wDirty = s.wDirty ∧ SameClut s (afterTest s t c) ∧ SameBuffers s (afterTest s t c) ∧
    SameReadTracker s (afterTest s t c) ∧ SameSurroundings s (afterTest s t c) := by
  simp [SameClut, SameBuffers, SameReadTracker, SameReadSnapshot, SameMemo, SameSurroundings, afterTest,
    writeTest_frame s t c]

end

section
variable {s : State} {t : TexCfg} {c : GatherCfg}

/-- A code that names a slot leaves the base in it: a test that does not run found it there already. -/
theorem afterTest_records {slot : LcSlot} (hpal : (fmtOf s.config t.psm).pal ≠ 0) (h : NamesSlot t.cld slot) :
    (afterTest s t c).readLc slot = t.cbp := by
  by_cases hruns : TestRuns s t
  · have hrecorded : (recordBase s t).readLc slot = t.cbp := by
      rcases h with h | h <;> simp [recordBase, h, readLc_writeLc]
    rw [← hrecorded, afterTest, writeTest_of_runs c hruns]
    cases writeDirty s t c <;> rfl
  · rw [afterTest, writeTest_of_not_runs c hruns]
    rcases h with h | h
    · exact absurd ⟨hpal, by simp [h]⟩ hruns
    · have hfound : s.readLc slot = t.cbp := by simpa [TestRuns, hpal, h] using hruns
      exact hfound

theorem afterTest_keepsSlot {slot : LcSlot} (h : (fmtOf s.config t.psm).pal = 0 ∨ ¬ NamesSlot t.cld slot) :
    (afterTest s t c).readLc slot = s.readLc slot := by
  by_cases hruns : TestRuns s t
  · have hother : ¬ NamesSlot t.cld slot := h.resolve_left hruns.1
    have hkept : (recordBase s t).readLc slot = s.readLc slot := by
      unfold recordBase
      cases hcode : loadRule t.cld with
      | never => rfl
      | always => rfl
      | record slot' =>
        have hne : slot ≠ slot' := fun heq => hother (.inl (heq ▸ hcode))
        simp [readLc_writeLc, hne]
      | ifDiffers slot' =>
        have hne : slot ≠ slot' := fun heq => hother (.inr (heq ▸ hcode))
        simp [readLc_writeLc, hne]
    rw [← hkept, afterTest, writeTest_of_runs c hruns]
    cases writeDirty s t c <;> rfl
  · rw [afterTest, writeTest_of_not_runs c hruns]
    rfl

theorem afterTest_refreshes (hruns : TestRuns s t) (hclean : writeDirty s t c = false) :
    (afterTest s t c).wTex = t ∧ (afterTest s t c).wGather = c := by
  simp [afterTest, writeTest_of_runs c hruns, hclean]

theorem afterTest_keepsSnapshot (h : ¬ TestRuns s t ∨ writeDirty s t c = true) :
    SameWriteSnapshot s (afterTest s t c) := by
  by_cases hruns : TestRuns s t
  · have hdirty : writeDirty s t c = true := h.resolve_left (not_not.mpr hruns)
    have hsnap := recordBase_writeSnapshot s t
    simpa [SameWriteSnapshot, afterTest, writeTest_of_runs c hruns, hdirty] using hsnap
  · simp [SameWriteSnapshot, afterTest, writeTest_of_not_runs c hruns]

end

/-- Settles O11: what WRITE_TEST returns turns on whether the code lets the dirty test run, and so does the refresh;
the slots turn on the code alone, since a code that finds its base recorded would record it again. -/
theorem writeTestFollowsLoadControl : Obligations.WriteTestFollowsLoadControl := by
  unfold Obligations.WriteTestFollowsLoadControl
  refine ⟨fun w h => by simp [decode, h], fun t c s => ⟨afterTest s t c, exec_writeTest s t c, ?_,
    afterTest_frame s t c⟩⟩
  intro indexed runs
  have hiff : TestRuns s t ↔ runs := testRuns_iff s t
  have hdone := afterTest_completed s t c
  refine ⟨fun h => ?_, fun h => ?_, fun ⟨hpal, h⟩ => ⟨?_, ?_⟩, fun ⟨hpal, h⟩ => ⟨?_, ?_⟩, fun h => ⟨?_, ?_⟩,
    fun ⟨h, hclean⟩ => afterTest_refreshes (hiff.mpr h) hclean,
    fun h => afterTest_keepsSnapshot (h.imp_left hiff.not.mpr)⟩
  · rwa [writeTest_of_runs c (hiff.mpr h)] at hdone
  · rwa [writeTest_of_not_runs c (hiff.not.mpr h)] at hdone
  · exact afterTest_records (slot := .slot0) hpal ((namesSlot_slot0 _).mpr h)
  · exact afterTest_keepsSlot (slot := .slot1) (.inr (by rw [namesSlot_slot1]; rcases h with h | h <;> simp [h]))
  · exact afterTest_keepsSlot (slot := .slot0) (.inr (by rw [namesSlot_slot0]; rcases h with h | h <;> simp [h]))
  · exact afterTest_records (slot := .slot1) hpal ((namesSlot_slot1 _).mpr h)
  · refine afterTest_keepsSlot (slot := .slot0) (h.imp not_not.mp fun hcld => ?_)
    rw [namesSlot_slot0]
    rcases hcld with h | h | h | h <;> simp [h]
  · refine afterTest_keepsSlot (slot := .slot1) (h.imp not_not.mp fun hcld => ?_)
    rw [namesSlot_slot1]
    rcases hcld with h | h | h | h <;> simp [h]

-- R82, R84, R85: the three maintenance commands.

/-- The state a maintenance command ends in when its test says `hit`. -/
def afterInvalidation (hit : Bool) (s : State) : State :=
  (if hit then s.markWriteDirty else s).complete .nothing []

theorem afterInvalidation_wDirty (hit : Bool) (s : State) :
    (afterInvalidation hit s).wDirty = (hit || s.wDirty) := by
  cases hit <;> rfl

theorem afterInvalidation_frame (hit : Bool) (s : State) :
    let u := afterInvalidation hit s
    Completed s u .nothing [] ∧ SameClut s u ∧ SameBuffers s u ∧ SameWriteSnapshot s u ∧ SameLc s u ∧
    SameReadTracker s u ∧ SameSurroundings s u := by
  cases hit <;>
    simp [afterInvalidation, Completed, SameClut, SameBuffers, SameWriteSnapshot, SameLc, SameReadTracker,
      SameReadSnapshot, SameMemo, SameSurroundings]

theorem maintenance_next {i : Instr} {s u : State}
    (hi : i = .invalidate ∨ (∃ b, i = .invalidateBlock b) ∨ ∃ a b, i = .invalidateRange a b)
    (h : exec i s = .next u) : ∃ hit, u = afterInvalidation hit s := by
  obtain rfl | ⟨b, rfl⟩ | ⟨a, b, rfl⟩ := hi
  · exact ⟨true, invalidate_next h⟩
  · exact ⟨_, invalidateBlock_next h⟩
  · exact ⟨_, invalidateRange_next h⟩

/-- Settles O14: the frame of a hit, and a code that never lets the test run. -/
theorem invalidateSetsWriteDirtyOnly : Obligations.InvalidateSetsWriteDirtyOnly := by
  unfold Obligations.InvalidateSetsWriteDirtyOnly
  refine ⟨fun w h => by simp [decode, h], fun s => ⟨afterInvalidation true s, rfl, rfl, ?_⟩⟩
  obtain ⟨hdone, hclut, hbuf, hsnap, hlc, hread, hsur⟩ := afterInvalidation_frame true s
  refine ⟨hdone, hclut, hbuf, hsnap, hlc, hread, hsur, fun t c hcld => ?_⟩
  have hnot : ¬ TestRuns (afterInvalidation true s) t := by
    rw [testRuns_iff]
    rcases hcld with h | h | h <;> simp [h]
  have hdone' := afterTest_completed (afterInvalidation true s) t c
  rw [writeTest_of_not_runs c hnot] at hdone'
  exact ⟨_, exec_writeTest _ t c, hdone', (afterTest_frame _ t c).1⟩

theorem sameGroup_iff (block base : BlockNum) :
    sameGroup block base = true ↔ block.toNat / 32 = base.toNat / 32 := by
  simp [sameGroup, ← BitVec.toNat_inj, Nat.shiftRight_eq_div_pow]

/-- Settles O16: the group test compares the block numbers shifted right by five, which divides them by 32. -/
theorem invalidateBlockTestsTheGroup : Obligations.InvalidateBlockTestsTheGroup := by
  unfold Obligations.InvalidateBlockTestsTheGroup
  refine ⟨fun w h => by simp [decode, h, decodeBlock], fun block s =>
    ⟨afterInvalidation (sameGroup block s.wTex.cbp) s, rfl, ?_, ?_, afterInvalidation_frame _ s⟩⟩
  · intro hgroup
    simp [afterInvalidation_wDirty, (sameGroup_iff block _).mpr hgroup]
  · intro hgroup
    have hmiss : sameGroup block s.wTex.cbp = false := by
      simpa using mt (sameGroup_iff block _).mp hgroup
    simp [afterInvalidation_wDirty, hmiss]

/-- Settles O18: a set W.dirty makes the dirty test report 1, so WRITE_TEST answers whether its code lets the test
run; the maintenance command changed neither the formats nor the slots. -/
theorem invalidationForcesTheNextReload : Obligations.InvalidationForcesTheNextReload := by
  unfold Obligations.InvalidationForcesTheNextReload
  intro i s u t c hi hexec hdirty hpal
  obtain ⟨hit, rfl⟩ := maintenance_next hi hexec
  obtain ⟨-, -, -, -, ⟨hlc0, hlc1⟩, -, -, -, hcfg, -⟩ := afterInvalidation_frame hit s
  refine ⟨_, _, exec_writeTest _ t c, afterTest_completed _ t c, ?_⟩
  have hreports : writeDirty (afterInvalidation hit s) t c = true := by simp [writeDirty, hdirty]
  simp [writeTest_fst_iff, hreports, testRuns_iff, hlc0, hlc1, hcfg, hpal, ne_comm]

-- R86 (b), R104: WRITE_TEST and WRITE, one after the other and as one command.

section
variable (s : State) (t : TexCfg) (c : GatherCfg)

/-- The state WRITE ends in. -/
def afterWrite : State :=
  (writePalette s t c).1.complete (.status (writePalette s t c).2.1) (writePalette s t c).2.2

theorem exec_write : exec (.write t c) s = .next (afterWrite s t c) := rfl

theorem writePalette_cmdIndex : (writePalette s t c).1.cmdIndex = s.cmdIndex := by
  simp [writePalette_fst]

theorem afterWrite_completed :
    Completed s (afterWrite s t c) (.status (writePalette s t c).2.1) (writePalette s t c).2.2 := by
  simp [Completed, afterWrite, writePalette_cmdIndex]

/-- WRITE commits its operands, so the dirty test has nothing to report of them (R100). -/
theorem writeDirty_afterWrite : writeDirty (afterWrite s t c) t c = false := by
  simp [writeDirty, texDiffers, afterWrite, writePalette_fst]

/-- WRITE reads neither the result nor the command index, so the command before it may complete first or not. -/
theorem writePalette_complete (value : ResultValue) (warnings : List Warning) :
    writePalette (s.complete value warnings) t c =
      ((writePalette s t c).1.complete value warnings, (writePalette s t c).2) := by
  simp only [writePalette, State.complete_config, State.complete_raster, State.complete_clut]
  cases runRoutine (writeRoutine s.config t) s.config s.raster s.clut t c <;> rfl

variable {s t c}

theorem exec_load_of_clean (h : (writeTest s t c).1 = false) :
    exec (.load t c) s = .next ((writeTest s t c).2.complete (.load false none) []) := by
  simp [exec, execLoad, h]

theorem exec_load_of_dirty (h : (writeTest s t c).1 = true) :
    exec (.load t c) s =
      .next ((writePalette (writeTest s t c).2 t c).1.complete
        (.load true (some (writePalette (writeTest s t c).2 t c).2.1))
        (writePalette (writeTest s t c).2 t c).2.2) := by
  simp [exec, execLoad, h]

end

/-- Settles O13: the first test finds W.dirty set, and the second finds what the WRITE committed. -/
theorem writeTestAroundAWriteReturnsOneThenZero : Obligations.WriteTestAroundAWriteReturnsOneThenZero := by
  unfold Obligations.WriteTestAroundAWriteReturnsOneThenZero
  intro s t c hpal hcld hdirty
  have hfirst : (writeTest s t c).1 = true := by
    simp [writeTest_fst_iff, testRuns_iff, hpal, hcld, writeDirty, hdirty]
  have hsecond : (writeTest (afterWrite (afterTest s t c) t c) t c).1 = false := by
    simp [← Bool.not_eq_true, writeTest_fst_iff, writeDirty_afterWrite]
  have hdone := afterTest_completed s t c
  have hdone' := afterTest_completed (afterWrite (afterTest s t c) t c) t c
  rw [hfirst] at hdone
  rw [hsecond] at hdone'
  exact ⟨_, _, _, exec_writeTest s t c, hdone, exec_write _ t c, exec_writeTest _ t c, hdone'⟩

/-- Settles O29: where the test returns 1, LOAD runs WRITE on the state of an uncompleted WRITE_TEST, and completing
it first changes only the result and the command index, which LOAD sets itself. -/
theorem loadIsWriteTestThenWrite : Obligations.LoadIsWriteTestThenWrite := by
  unfold Obligations.LoadIsWriteTestThenWrite
  intro t c s
  refine ⟨_, _, exec_writeTest s t c, afterTest_completed s t c, fun hclean => exec_load_of_clean hclean,
    fun hdirty => ⟨_, _, _, exec_write _ t c, afterWrite_completed _ t c, ?_⟩⟩
  have hindex : s.cmdIndex = (writePalette (writeTest s t c).2 t c).1.cmdIndex := by
    simp [writePalette_cmdIndex, writeTest_frame s t c]
  rw [exec_load_of_dirty hdirty, afterWrite, afterTest, writePalette_complete, hindex]
  rfl

end Sys2Proof.Proofs.WriteTracker

namespace Sys2Proof.Proofs.WriteCodecs
open Sys2Proof.Machine Sys2Proof.Safety Sys2Proof.Proofs.WriteTracker

-- R101: which keys the dispatch table leaves unmapped.

theorem dispatchWrite_of_unsupported {m : StorageMode} {d : Depth} {iw : IndexWidth}
    (h : d = .other ∨ iw = .none) : dispatchWrite m d iw = .null := by
  rcases h with rfl | rfl
  · cases m <;> rfl
  · cases m <;> cases d <;> rfl

-- R100, R102: the state WRITE ends in, whatever its routine and by what its routine answers.

section
variable (s : State) (t : TexCfg) (c : GatherCfg)

theorem afterWrite_commits :
    (afterWrite s t c).wTex = t ∧ (afterWrite s t c).wGather = c ∧ (afterWrite s t c).wDirty = false ∧
    (afterWrite s t c).rDirty = true := by
  simp [afterWrite, writePalette_fst]

theorem afterWrite_frame :
    SameLc s (afterWrite s t c) ∧ SameReadSnapshot s (afterWrite s t c) ∧ SameMemo s (afterWrite s t c) ∧
    SameBuffers s (afterWrite s t c) ∧ SameSurroundings s (afterWrite s t c) := by
  simp [SameLc, SameReadSnapshot, SameMemo, SameBuffers, SameSurroundings, afterWrite, writePalette_fst]

theorem writeTest_afterWrite : (writeTest (afterWrite s t c) t c).1 = false := by
  simp [← Bool.not_eq_true, writeTest_fst_iff, writeDirty_afterWrite]

/-- Neither the dispatch nor a routine looks at CLD: a WRITE with another code differs in the snapshot only. -/
theorem afterWrite_setCld (x : BitVec 3) :
    afterWrite s { t with cld := x } c = { afterWrite s t c with wTex := { t with cld := x } } := by
  have hroutine : runRoutine (writeRoutine s.config { t with cld := x }) s.config s.raster s.clut
      { t with cld := x } c = runRoutine (writeRoutine s.config t) s.config s.raster s.clut t c := rfl
  unfold afterWrite writePalette
  rw [hroutine]
  cases runRoutine (writeRoutine s.config t) s.config s.raster s.clut t c <;> rfl

variable {s t c}

theorem afterWrite_of_some {clut : Vector Half 512}
    (h : runRoutine (writeRoutine s.config t) s.config s.raster s.clut t c = some clut) :
    (afterWrite s t c).clut = clut ∧ Completed s (afterWrite s t c) (.status .ok) [] := by
  have hdone := afterWrite_completed s t c
  simp only [writePalette, h] at hdone
  exact ⟨by simp [afterWrite, writePalette_fst, h], hdone⟩

theorem afterWrite_of_none (h : runRoutine (writeRoutine s.config t) s.config s.raster s.clut t c = none) :
    SameClut s (afterWrite s t c) ∧
    Completed s (afterWrite s t c) (.status .unsupported) [.unsupportedWrite t.csm t.cpsm t.psm] := by
  have hdone := afterWrite_completed s t c
  simp only [writePalette, h] at hdone
  exact ⟨by simp [SameClut, afterWrite, writePalette_fst, h], hdone⟩

end

/-- Settles O19: the snapshot, the flags and the frame are the same for every routine, the Palette Store and the
status follow what the routine answers, and CLD reaches the snapshot only. -/
theorem writeCommitsUnconditionally : Obligations.WriteCommitsUnconditionally := by
  unfold Obligations.WriteCommitsUnconditionally
  refine ⟨fun w h => by simp [decode, h], fun t c s => ?_⟩
  obtain ⟨htex, hgather, hwrite, hread⟩ := afterWrite_commits s t c
  obtain ⟨hlc, hsnap, hmemo, hbuf, hsur⟩ := afterWrite_frame s t c
  have htest := afterTest_completed (afterWrite s t c) t c
  rw [writeTest_afterWrite] at htest
  refine ⟨_, exec_write s t c, htex, hgather, hwrite, hread, ?_, hlc, hsnap, hmemo, hbuf, hsur,
    fun x => ⟨_, exec_write s { t with cld := x } c, ?_, ?_⟩, _, exec_writeTest _ t c, htest⟩
  · split
    next clut h => exact afterWrite_of_some h
    next h => exact afterWrite_of_none h
  · rw [afterWrite_setCld]
  · rw [afterWrite_setCld]

/-- Settles O21: the dispatch gives such operands the NULL routine, and WRITE commits its operands all the same. -/
theorem unsupportedWriteIsALoggedNoOp : Obligations.UnsupportedWriteIsALoggedNoOp := by
  unfold Obligations.UnsupportedWriteIsALoggedNoOp
  intro t c s h
  have hnull : runRoutine (writeRoutine s.config t) s.config s.raster s.clut t c = none := by
    rw [writeRoutine, dispatchWrite_of_unsupported h]
    rfl
  obtain ⟨hclut, hdone⟩ := afterWrite_of_none hnull
  obtain ⟨htex, hgather, hwrite, hread⟩ := afterWrite_commits s t c
  obtain ⟨hlc, hsnap, hmemo, hbuf, hsur⟩ := afterWrite_frame s t c
  exact ⟨_, exec_write s t c, hclut, hdone, hwrite, hread, htex, hgather, hbuf, hlc, hsnap, hmemo, hsur⟩

end Sys2Proof.Proofs.WriteCodecs

namespace Sys2Proof.Proofs.AlphaRange
open Sys2Proof.Machine Sys2Proof.Safety

-- R160, R161: what a valid ALPHA_MINMAX does on the fast path.

theorem fastAlpha_iff (s : State) :
    fastAlpha s = true ↔ depthOf s.config s.rTex.cpsm = .d24 ∧ s.rAlpha.aem = false := by
  simp [fastAlpha]

theorem exec_alphaMinMax_of_fast {s : State} (hvalid : AlphaQueryValid s) (hfast : fastAlpha s = true) :
    exec .alphaMinMax s = .next (s.complete (.alphaRange s.rAlpha.ta0 s.rAlpha.ta0) []) := by
  obtain ⟨hcurrent, hpath⟩ := hvalid
  simp [exec, execAlphaMinMax, hcurrent, hpath, hfast]

-- R131: what RDIRTY's 0 says of the operands.

section
variable {s : State} {t : TexCfg} {a : AlphaCfg}

theorem exec_read_of_hit (h : readDirty s t a = false) :
    exec (.read t a) s = .next ((s.refreshRead t a).complete (paletteResult (s.refreshRead t a) false) []) := by
  simp [exec, execRead, h]

theorem readDirty_eq_false_iff :
    readDirty s t a = false ↔ s.rDirty = false ∧ texDiffers s.config t s.rTex = false ∧
      alphaDiffers s.config (depthOf s.config t.cpsm) a s.rAlpha = false := by
  simp [readDirty, and_assoc]

theorem cpsm_eq_of_hit (h : readDirty s t a = false) : t.cpsm = s.rTex.cpsm := by
  obtain ⟨-, htex, -⟩ := readDirty_eq_false_iff.mp h
  simp only [texDiffers, Bool.or_eq_false_iff, bne_eq_false_iff_eq] at htex
  obtain ⟨⟨⟨-, hcpsm⟩, -⟩, -⟩ := htex
  exact hcpsm

/-- Under D24 the test compares AEM and TA0, by the depth of the operands, which CPSM fixes. -/
theorem alpha_eq_of_hit_d24 (h : readDirty s t a = false) (hdepth : depthOf s.config t.cpsm = .d24) :
    a.aem = s.rAlpha.aem ∧ a.ta0 = s.rAlpha.ta0 := by
  obtain ⟨-, -, halpha⟩ := readDirty_eq_false_iff.mp h
  simpa [hdepth, alphaDiffers] using halpha

end

/-- Settles O45: the fast branch completes the command in the state it ran in, and a hit stores operands that RDIRTY
found equal in all three fields. -/
theorem alphaFastPathReturnsTheFirstAlphaByte : Obligations.AlphaFastPathReturnsTheFirstAlphaByte := by
  unfold Obligations.AlphaFastPathReturnsTheFirstAlphaByte
  refine ⟨fun s hvalid hdepth haem => ?_, fun s t a hdepth hhit => ?_⟩
  · exact exec_alphaMinMax_of_fast hvalid ((fastAlpha_iff s).mpr ⟨hdepth, haem⟩)
  · have hcpsm : t.cpsm = s.rTex.cpsm := cpsm_eq_of_hit hhit
    have halpha := alpha_eq_of_hit_d24 hhit (hcpsm ▸ hdepth)
    exact ⟨_, exec_read_of_hit hhit, hcpsm, halpha⟩

end Sys2Proof.Proofs.AlphaRange

namespace Sys2Proof.Proofs.Exceptions
open Sys2Proof.Machine Sys2Proof.Safety

-- R70, R71: which words decode, and to which command.

section
variable {w : CommandWords}

/-- The OPs that spell no command (30_encoding.md R71). -/
def ReservedOp (w : CommandWords) : Prop :=
  w.op = 0 ∨ 9 ≤ w.op.toNat

theorem reservedOp_iff_toNat : ReservedOp w ↔ w.op.toNat = 0 ∨ 9 ≤ w.op.toNat := by
  simp [ReservedOp, ← BitVec.toNat_inj]

theorem not_reservedOp_iff : ¬ ReservedOp w ↔ w.op ≠ 0 ∧ w.op.toNat ≤ 8 := by
  simp [ReservedOp, Nat.lt_succ_iff]

theorem op_ne_five_of_reservedOp (h : ReservedOp w) : w.op ≠ 5 := by
  rintro h5
  simp [ReservedOp, h5] at h

theorem decode_of_reservedOp (h : ReservedOp w) : decode w = .error (.reservedOp w.op) := by
  rw [reservedOp_iff_toNat] at h
  unfold decode
  split
  case h_9 => rfl
  all_goals omega

theorem decode_of_not_reservedOp (h : ¬ ReservedOp w) :
    ∃ i, decode w = .ok i ∧ (i = .alphaMinMax ↔ w.op = 5) := by
  rw [reservedOp_iff_toNat] at h
  simp only [← BitVec.toNat_inj]
  unfold decode
  split
  case h_9 =>
    simp only [imp_false] at *
    omega
  all_goals next hop => exact ⟨_, rfl, by simp [hop]⟩

end

-- R170: which commands can end in anything but a next state.

theorem exec_read_isNext (t : TexCfg) (a : AlphaCfg) (s : State) : ∃ u, exec (.read t a) s = .next u := by
  simp only [exec, execRead]
  split
  · exact ⟨_, rfl⟩
  · exact ⟨_, rfl⟩

theorem exec_load_isNext (t : TexCfg) (c : GatherCfg) (s : State) : ∃ u, exec (.load t c) s = .next u := by
  cases h : (writeTest s t c).1
  · exact ⟨_, WriteTracker.exec_load_of_clean h⟩
  · exact ⟨_, WriteTracker.exec_load_of_dirty h⟩

theorem exec_isNext_of_ne_alphaMinMax {i : Instr} (hi : i ≠ .alphaMinMax) (s : State) :
    ∃ u, exec i s = .next u := by
  cases i with
  | writeTest t c => exact ⟨_, rfl⟩
  | write t c => exact ⟨_, rfl⟩
  | load t c => exact exec_load_isNext t c s
  | read t a => exact exec_read_isNext t a s
  | alphaMinMax => exact absurd rfl hi
  | invalidate => exact ⟨_, rfl⟩
  | invalidateBlock block => exact ⟨_, rfl⟩
  | invalidateRange first last => exact ⟨_, rfl⟩

theorem exec_alphaMinMax_isNext {s : State} (h : AlphaQueryValid s) : ∃ u, exec .alphaMinMax s = .next u := by
  obtain ⟨hcurrent, hpath⟩ := h
  simp only [exec, execAlphaMinMax, hcurrent, hpath, Bool.false_eq_true, if_false]
  split
  · exact ⟨_, rfl⟩
  · split
    · exact ⟨_, rfl⟩
    · exact ⟨_, rfl⟩

theorem exec_alphaMinMax_isFault {s : State} (h : ¬ AlphaQueryValid s) : ∃ f, exec .alphaMinMax s = .fault f := by
  by_cases hcurrent : s.rDirty = true
  · exact ⟨.alphaPrecond, by simp [exec, execAlphaMinMax, hcurrent, raise]⟩
  · have hpath : readPath s.config s.rTex = .none := by
      simpa [AlphaQueryValid, hcurrent] using h
    exact ⟨.alphaPal, by simp [exec, execAlphaMinMax, hcurrent, hpath, raise]⟩

-- R174, R175: the step that takes a command.

section
variable {s : State} {w : CommandWords} {rest : List HostEvent}

theorem step_of_badConfig (hrun : s.runOver = false) (hconfig : s.config.wellFormed = false) :
    step s = .refused .badConfig := by
  simp [step, nextEvent, hrun, hconfig, refuse]

theorem step_of_reservedOp (hlive : Live s) (hpending : s.pending = .command w :: rest) (h : ReservedOp w) :
    step s = .refused (.reservedOp w.op) := by
  obtain ⟨hrun, hconfig⟩ := hlive
  simp [step, nextEvent, hrun, hconfig, hpending, runEvent, runCommand, decode_of_reservedOp h, refuse]

/-- What a step of a live run does with a command: one of three outcomes, whose conditions exclude each other. The
query's condition is that of the state before the step, since taking the event changes the queue only. -/
theorem step_command_outcome (hlive : Live s) (hpending : s.pending = .command w :: rest) :
    (ReservedOp w ∧ ∃ r, step s = .refused r) ∨
    (¬ ReservedOp w ∧ (w.op = 5 ∧ ¬ AlphaQueryValid s) ∧ ∃ f, step s = .fault f) ∨
    (¬ ReservedOp w ∧ (w.op = 5 → AlphaQueryValid s) ∧ ∃ t, step s = .next t) := by
  by_cases hres : ReservedOp w
  · exact .inl ⟨hres, _, step_of_reservedOp hlive hpending hres⟩
  obtain ⟨i, hdecode, hquery⟩ := decode_of_not_reservedOp hres
  rw [step_command s w rest i hlive hpending hdecode]
  by_cases hop : w.op = 5
  · obtain rfl := hquery.mpr hop
    by_cases hvalid : AlphaQueryValid s
    · exact .inr (.inr ⟨hres, fun _ => hvalid, exec_alphaMinMax_isNext (s := s.takeEvent rest) hvalid⟩)
    · exact .inr (.inl ⟨hres, ⟨hop, hvalid⟩, exec_alphaMinMax_isFault (s := s.takeEvent rest) hvalid⟩)
  · exact .inr (.inr ⟨hres, fun h => absurd h hop, exec_isNext_of_ne_alphaMinMax (mt hquery.mp hop) _⟩)

end

/-- Settles O7: the three outcomes of a command have conditions that exclude each other, so each condition is also
necessary for its outcome. -/
theorem onlyAlphaQueryFaultsAndOnlyReservedOpIsRefused :
    Obligations.OnlyAlphaQueryFaultsAndOnlyReservedOpIsRefused := by
  unfold Obligations.OnlyAlphaQueryFaultsAndOnlyReservedOpIsRefused
  intro s w rest hrun hpending
  refine ⟨step_of_badConfig hrun, fun hconfig => ?_⟩
  change (_ ↔ ReservedOp w) ∧ _
  rw [← and_assoc (a := w.op ≠ 0), ← not_reservedOp_iff]
  rcases step_command_outcome ⟨hrun, hconfig⟩ hpending with
    ⟨hres, r, hstep⟩ | ⟨hres, hfault, f, hstep⟩ | ⟨hres, hvalid, t, hstep⟩
  · have hvacuous : w.op = 5 → AlphaQueryValid s := fun hop => absurd hop (op_ne_five_of_reservedOp hres)
    simpa [hstep, hres] using hvacuous
  · simp [hstep, hres, hfault]
  · simpa [hstep, hres] using hvalid

end Sys2Proof.Proofs.Exceptions

namespace Sys2Proof.Proofs.Encoding

-- R61 to R64: a packed word decodes to the bundle it was packed from.

theorem decodeT_encodeT (t : TexCfg) : decodeT (encodeT t) = t := by
  simp [decodeT, encodeT, BitVec.extractLsb'_or, extract_place_self, extract_place_disjoint]

theorem decodeC_encodeC (c : GatherCfg) : decodeC (encodeC c) = c := by
  simp [decodeC, encodeC, BitVec.extractLsb'_or, extract_place_self, extract_place_disjoint]

theorem decodeA_encodeA (a : AlphaCfg) : decodeA (encodeA a) = a := by
  simp [decodeA, encodeA, BitVec.extractLsb'_or, extract_place_self, extract_place_disjoint]

theorem decodeBlock_encodeBlock (block : BlockNum) : decodeBlock (encodeBlock block) = block :=
  extract_place_self block 0 (by decide)

theorem decodeBlock_encodeRange (first last : BlockNum) : decodeBlock (encodeRange first last) = first := by
  simp [decodeBlock, encodeRange, BitVec.extractLsb'_or, extract_place_self, extract_place_disjoint]

theorem decodeLast_encodeRange (first last : BlockNum) : decodeLast (encodeRange first last) = last := by
  simp [decodeLast, encodeRange, BitVec.extractLsb'_or, extract_place_self, extract_place_disjoint]

/-- Settles O1: each row of the opcode map reads back the bundles that `encode` packed for it. -/
theorem decodeOfEncodeIsTheCommand : Obligations.DecodeOfEncodeIsTheCommand := by
  unfold Obligations.DecodeOfEncodeIsTheCommand
  intro i _
  cases i with
  | writeTest t c => simp [encode, decode, decodeT_encodeT, decodeC_encodeC]
  | write t c => simp [encode, decode, decodeT_encodeT, decodeC_encodeC]
  | load t c => simp [encode, decode, decodeT_encodeT, decodeC_encodeC]
  | read t a => simp [encode, decode, decodeT_encodeT, decodeA_encodeA]
  | alphaMinMax => rfl
  | invalidate => rfl
  | invalidateBlock block => simp [encode, decode, decodeBlock_encodeBlock]
  | invalidateRange first last => simp [encode, decode, decodeBlock_encodeRange, decodeLast_encodeRange]

-- R72: a field is read from its own bits only.

/-- Two words that agree under a mask agree in every field the mask covers. -/
theorem extractLsb'_eq_of_mask {w w' mask : DWord} (h : w &&& mask = w' &&& mask) (lo n : Nat)
    (hmask : mask.extractLsb' lo n = BitVec.allOnes n) : w.extractLsb' lo n = w'.extractLsb' lo n := by
  have hfield := congrArg (BitVec.extractLsb' lo n) h
  simpa [BitVec.extractLsb'_and, hmask] using hfield

theorem decodeT_eq_of_mask {w w' : DWord} (h : w &&& 0xFFFFFFE003F00000 = w' &&& 0xFFFFFFE003F00000) :
    decodeT w = decodeT w' := by
  have hfield := extractLsb'_eq_of_mask h
  simp only [decodeT, hfield 20 6 rfl, hfield 37 14 rfl, hfield 51 4 rfl, hfield 55 1 rfl, hfield 56 5 rfl,
    hfield 61 3 rfl]

theorem decodeC_eq_of_mask {w w' : DWord} (h : w &&& 0x00000000003FFFFF = w' &&& 0x00000000003FFFFF) :
    decodeC w = decodeC w' := by
  have hfield := extractLsb'_eq_of_mask h
  simp only [decodeC, hfield 0 6 rfl, hfield 6 6 rfl, hfield 12 10 rfl]

theorem decodeA_eq_of_mask {w w' : DWord} (h : w &&& 0x000000FF000080FF = w' &&& 0x000000FF000080FF) :
    decodeA w = decodeA w' := by
  have hfield := extractLsb'_eq_of_mask h
  simp only [decodeA, hfield 0 8 rfl, hfield 15 1 rfl, hfield 32 8 rfl]

theorem decodeBlock_eq_of_mask {w w' : DWord} (h : w &&& 0x000000003FFF3FFF = w' &&& 0x000000003FFF3FFF) :
    decodeBlock w = decodeBlock w' :=
  extractLsb'_eq_of_mask h 0 14 rfl

theorem decodeLast_eq_of_mask {w w' : DWord} (h : w &&& 0x000000003FFF3FFF = w' &&& 0x000000003FFF3FFF) :
    decodeLast w = decodeLast w' :=
  extractLsb'_eq_of_mask h 16 14 rfl

/-- Settles O2: the masks cover the fields of R61 to R64, and `decode` reads the operand words by these fields. -/
theorem ignoredBitsHaveNoEffect : Obligations.IgnoredBitsHaveNoEffect := by
  unfold Obligations.IgnoredBitsHaveNoEffect
  intro w w' hop ht hc ha hb
  simp only [decode, hop, decodeT_eq_of_mask ht, decodeC_eq_of_mask hc, decodeA_eq_of_mask ha,
    decodeBlock_eq_of_mask hb, decodeLast_eq_of_mask hb]

-- R60, R70: the operand words each row reads.

/-- Settles O3: per group of rows, `decode` of both words is the row's command over the words it names. -/
theorem unnamedWordsAreIgnored : Obligations.UnnamedWordsAreIgnored := by
  unfold Obligations.UnnamedWordsAreIgnored
  intro w w' i hop hdecode
  rw [← hdecode]
  refine ⟨fun h ht hc => ?_, fun h ht ha => ?_, fun h => ?_, fun h hb => ?_⟩
  · rcases h with h | h | h <;> simp [decode, ← hop, h, ht, hc]
  · simp [decode, ← hop, h, ht, ha]
  · rcases h with h | h <;> simp [decode, ← hop, h]
  · rcases h with h | h <;> simp [decode, ← hop, h, hb]

/-- Settles O4: the decoder evaluates on each sample. -/
theorem sampleWordsDecode : Obligations.SampleWordsDecode :=
  ⟨rfl, rfl, rfl, rfl, rfl, rfl⟩

end Sys2Proof.Proofs.Encoding

namespace Sys2Proof.Proofs.RunEnd
open Sys2Proof.Machine Sys2Proof.Safety Sys2Proof.Proofs.Exceptions

/-- Settles O8: a reserved OP is refused at decode, before any operand word is read. -/
theorem reservedOpIsRefusedByName : Obligations.ReservedOpIsRefusedByName := by
  unfold Obligations.ReservedOpIsRefusedByName
  intro s w rest hlive hpending hreserved
  exact step_of_reservedOp hlive hpending hreserved

theorem step_of_runOver {s : State} (h : s.runOver = true) : step s = .refused .runEnded := by
  simp [step, nextEvent, h, refuse]

/-- Settles O9: `advance` of a stop sets the one mark, and a set mark is all that `runOver` asks for. -/
theorem stopMarksTheRunAndChangesNothingElse : Obligations.StopMarksTheRunAndChangesNothingElse := by
  unfold Obligations.StopMarksTheRunAndChangesNothingElse
  intro s _
  refine ⟨fun f hstep => ?_, fun r hstep => ?_⟩
  · have hadvance : advance s = { s with faulted := true } := by simp [advance, hstep]
    exact ⟨hadvance, step_of_runOver (by simp [hadvance, State.runOver])⟩
  · have hadvance : advance s = { s with refused := true } := by simp [advance, hstep]
    exact ⟨hadvance, step_of_runOver (by simp [hadvance, State.runOver])⟩

end Sys2Proof.Proofs.RunEnd

namespace Sys2Proof.Proofs.DirtyTests
open Sys2Proof.Machine

theorem gatherCfg_ne_iff (c d : GatherCfg) : c ≠ d ↔ (c.cbw, c.cou, c.cov) ≠ (d.cbw, d.cou, d.cov) := by
  cases c
  cases d
  simp

/-- R81, R131: the fields of the texture bundle that both tests compare. -/
theorem texDiffers_iff (cfg : Config) (t u : TexCfg) :
    texDiffers cfg t u = true ↔ t.csa ≠ u.csa ∨ t.csm ≠ u.csm ∨ t.cpsm ≠ u.cpsm ∨ t.cbp ≠ u.cbp ∨
      (fmtOf cfg t.psm).bpp ≠ (fmtOf cfg u.psm).bpp := by
  simp [texDiffers, or_assoc]

/-- R131: the alpha fields compared per depth; D32 and OTHER compare none. -/
theorem alphaDiffers_iff (cfg : Config) (d : Depth) (a b : AlphaCfg) :
    alphaDiffers cfg d a b = true ↔ (d = .d24 ∧ (a.aem ≠ b.aem ∨ a.ta0 ≠ b.ta0)) ∨
      ((d = .d16 ∨ (d = .d16s ∧ cfg.read16sAlphaCmp = true)) ∧
        (a.ta0 ≠ b.ta0 ∨ a.ta1 ≠ b.ta1 ∨ a.aem ≠ b.aem)) := by
  cases d <;> simp [alphaDiffers, or_assoc]

/-- Settles O12: the test is W.dirty, the texture fields, or the gather bundle under the compared mode. -/
theorem writeDirtyTestComparesTheSnapshot : Obligations.WriteDirtyTestComparesTheSnapshot := by
  unfold Obligations.WriteDirtyTestComparesTheSnapshot
  intro s t c
  change _ ↔ s.wDirty = true ∨ t.csa ≠ s.wTex.csa ∨ t.csm ≠ s.wTex.csm ∨ t.cpsm ≠ s.wTex.cpsm ∨
    t.cbp ≠ s.wTex.cbp ∨ (fmtOf s.config t.psm).bpp ≠ (fmtOf s.config s.wTex.psm).bpp ∨
    (t.csm = cmpCsm s.config ∧ _)
  simp only [writeDirty, Bool.or_eq_true, texDiffers_iff, Bool.and_eq_true, beq_iff_eq, bne_iff_ne,
    gatherCfg_ne_iff, or_assoc]

/-- Settles O31: the test is R.dirty, the texture fields, or the alpha fields of the operands' depth. -/
theorem readDirtyTestComparesTheSnapshot : Obligations.ReadDirtyTestComparesTheSnapshot := by
  unfold Obligations.ReadDirtyTestComparesTheSnapshot
  intro s t a
  simp only [readDirty, Bool.or_eq_true, texDiffers_iff, alphaDiffers_iff, or_assoc]

end Sys2Proof.Proofs.DirtyTests

namespace Sys2Proof.Proofs.Selection
open Sys2Proof.Machine Sys2Proof.Safety

-- R67: the classes of depths.

theorem depth_cases (d : Depth) : Is32 d ∨ Is16 d ∨ d = .other := by
  cases d <;> simp [Is32, Is16]

theorem not_is16_of_is32 {d : Depth} (h : Is32 d) : ¬ Is16 d := by
  rcases h with rfl | rfl <;> simp [Is16]

-- R83: the footprint.

theorem is16_iff (d : Depth) : Depth.is16 d = true ↔ Is16 d := by
  cases d <;> simp [Depth.is16, Is16]

/-- Settles O15: one halving per condition, from 4 blocks. -/
theorem footprintHalvesWithBitDepths : Obligations.FootprintHalvesWithBitDepths := by
  unfold Obligations.FootprintHalvesWithBitDepths
  intro cfg x
  simp only [← is16_iff]
  refine ⟨fun ⟨hdepth, hbpp⟩ => ?_, fun ⟨hdepth, hbpp⟩ => ?_, fun ⟨hdepth, hbpp⟩ => ?_,
    fun ⟨hdepth, hbpp⟩ => ?_⟩ <;> simp [footprint, hdepth, hbpp]

theorem footprint_pos (cfg : Config) (x : TexCfg) : 0 < footprint cfg x := by
  unfold footprint
  cases Depth.is16 (depthOf cfg x.cpsm) <;> by_cases hbpp : (fmtOf cfg x.psm).bpp = .b4 <;> simp [hbpp]

/-- The two intervals of block numbers meet in the larger of their first blocks. -/
theorem rangeMeets_iff (first last base : BlockNum) {f : Nat} (hf : 0 < f) :
    rangeMeets first last base f = true ↔
      ∃ b : Nat, base.toNat ≤ b ∧ b < base.toNat + f ∧ first.toNat ≤ b ∧ b ≤ last.toNat := by
  simp only [rangeMeets, Bool.and_eq_true, decide_eq_true_eq]
  constructor
  · rintro ⟨⟨horder, hbase⟩, hfirst⟩
    exact ⟨max base.toNat first.toNat, by omega, by omega, by omega, by omega⟩
  · rintro ⟨b, hbase, hend, hfirst, hlast⟩
    omega

/-- Settles O17: the range test asks whether the footprint, which is never empty, and the range meet. -/
theorem invalidateRangeMeetsTheFootprint : Obligations.InvalidateRangeMeetsTheFootprint := by
  unfold Obligations.InvalidateRangeMeetsTheFootprint
  intro first last s
  refine ⟨WriteTracker.afterInvalidation
    (rangeMeets first last s.wTex.cbp (footprint s.config s.wTex)) s, rfl, ?_,
    WriteTracker.afterInvalidation_frame _ s⟩
  rw [WriteTracker.afterInvalidation_wDirty, Bool.or_eq_true,
    rangeMeets_iff _ _ _ (footprint_pos s.config s.wTex), or_comm]

-- R66 to R68, R101, R132: formats, depths, index widths, routines and paths.

theorem indexWidth_eq_i8_iff (cfg : Config) (psm : BitVec 6) :
    indexWidth cfg psm = .i8 ↔ (fmtOf cfg psm).pal = 256 := by
  unfold indexWidth
  split
  · simp [*]
  · split <;> simp [*]

theorem indexWidth_eq_i4_iff (cfg : Config) (psm : BitVec 6) :
    indexWidth cfg psm = .i4 ↔ (fmtOf cfg psm).pal = 16 := by
  unfold indexWidth
  split
  · simp [*]
  · split <;> simp [*]

theorem indexWidth_eq_none_iff (cfg : Config) (psm : BitVec 6) :
    indexWidth cfg psm = .none ↔ (fmtOf cfg psm).pal ≠ 16 ∧ (fmtOf cfg psm).pal ≠ 256 := by
  rw [Ne, ← indexWidth_eq_i4_iff, Ne, ← indexWidth_eq_i8_iff]
  cases indexWidth cfg psm <;> simp

/-- R7, of one format of a well-formed table. -/
theorem pal_of_wellFormed {cfg : Config} (h : cfg.wellFormed = true) (psm : BitVec 6) :
    (fmtOf cfg psm).pal = 0 ∨ (fmtOf cfg psm).pal = 16 ∨ (fmtOf cfg psm).pal = 256 := by
  have hentry : (fmtOf cfg psm).wellFormed = true :=
    List.all_eq_true.mp h _ (Vector.mem_toList_iff.mpr (Vector.getElem_mem psm.isLt))
  simp only [FmtEntry.wellFormed, Bool.and_eq_true, Bool.or_eq_true, beq_iff_eq, or_assoc] at hentry
  exact hentry.1

theorem dispatchWrite_of_is32 {d : Depth} (h : Is32 d) :
    dispatchWrite .direct d .i8 = .d32I8 ∧ dispatchWrite .direct d .i4 = .d32I4 ∧
    dispatchWrite .gather d .i8 = .g32 256 ∧ dispatchWrite .gather d .i4 = .g32 16 := by
  rcases h with rfl | rfl <;> exact ⟨rfl, rfl, rfl, rfl⟩

theorem dispatchWrite_of_is16 {d : Depth} (h : Is16 d) :
    dispatchWrite .direct d .i8 = .d16I8 ∧ dispatchWrite .direct d .i4 = .d16I4 ∧
    dispatchWrite .gather d .i8 = .g16 256 ∧ dispatchWrite .gather d .i4 = .g16 16 := by
  rcases h with rfl | rfl <;> exact ⟨rfl, rfl, rfl, rfl⟩

theorem expandPath_of_is32 {d : Depth} (h : Is32 d) :
    expandPath d .i8 = .e32I8 ∧ expandPath d .i4 = .e32I4 := by
  rcases h with rfl | rfl <;> exact ⟨rfl, rfl⟩

theorem expandPath_of_is16 {d : Depth} (h : Is16 d) :
    expandPath d .i8 = .e16I8 ∧ expandPath d .i4 = .e16I4 := by
  rcases h with rfl | rfl <;> exact ⟨rfl, rfl⟩

theorem expandPath_eq_none_iff (d : Depth) (iw : IndexWidth) :
    expandPath d iw = .none ↔ d = .other ∨ iw = .none := by
  cases d <;> cases iw <;> simp [expandPath]

/-- Settles O20: the tables are total look-ups, and the dispatch has one row per mode, depth class and index width. -/
theorem dispatchTableIsTotal : Obligations.DispatchTableIsTotal := by
  unfold Obligations.DispatchTableIsTotal
  refine ⟨fun cfg psm cpsm => ⟨?_, ?_, indexWidth_eq_i8_iff cfg psm, indexWidth_eq_i4_iff cfg psm,
    fun hwf => ?_⟩, fun m d iw => ⟨?_, ?_, ?_, ?_, ?_, ?_, ?_, ?_, WriteCodecs.dispatchWrite_of_unsupported⟩⟩
  · exact Vector.getElem?_eq_getElem psm.isLt
  · exact Vector.getElem?_eq_getElem cpsm.isLt
  · rw [indexWidth_eq_none_iff]
    have hpal := pal_of_wellFormed hwf psm
    omega
  · rintro ⟨rfl, h, rfl⟩; simp [dispatchWrite_of_is32 h]
  · rintro ⟨rfl, h, rfl⟩; simp [dispatchWrite_of_is32 h]
  · rintro ⟨rfl, h, rfl⟩; simp [dispatchWrite_of_is16 h]
  · rintro ⟨rfl, h, rfl⟩; simp [dispatchWrite_of_is16 h]
  · rintro ⟨rfl, h, rfl⟩; simp [dispatchWrite_of_is32 h]
  · rintro ⟨rfl, h, rfl⟩; simp [dispatchWrite_of_is32 h]
  · rintro ⟨rfl, h, rfl⟩; simp [dispatchWrite_of_is16 h]
  · rintro ⟨rfl, h, rfl⟩; simp [dispatchWrite_of_is16 h]

-- R105, R106: the permutations. S32 cycles three bits twice, S16 cycles five bits, so a power of each is the identity.

theorem s32_lt : ∀ e < 256, s32 e < 256 := by decide +kernel

theorem s16_lt : ∀ e < 256, s16 e < 256 := by decide +kernel

theorem s32_iterate_three : ∀ e < 256, s32^[3] e = e := by decide +kernel

theorem s16_iterate_five : ∀ e < 256, s16^[5] e = e := by decide +kernel

theorem s32_eq_formula : ∀ e < 256, s32 e =
    e % 2 + 2 * (e / 8 % 2) + 4 * (e / 2 % 4) + 16 * (e / 32 % 4) + 64 * (e / 16 % 2) + 128 * (e / 128) := by
  decide +kernel

theorem s16_eq_formula : ∀ e < 256, s16 e =
    e / 16 % 2 + 2 * (e % 2) + 4 * (e / 8 % 2) + 8 * (e / 2 % 4) + 32 * (e / 32) := by
  decide +kernel

/-- A map of 0..255 to itself with a power that is the identity reaches every value, from one argument only. -/
theorem bijective_of_iterate {f : Nat → Nat} {n : Nat} (hlt : ∀ e < 256, f e < 256)
    (hid : ∀ e < 256, f^[n + 1] e = e) :
    (∀ k < 256, ∃ e < 256, f e = k) ∧ ∀ e < 256, ∀ e' < 256, f e = f e' → e = e' := by
  refine ⟨fun k hk => ⟨f^[n] k, ?_, ?_⟩, fun e he e' he' heq => ?_⟩
  · exact Set.MapsTo.iterate (s := {e | e < 256}) hlt n hk
  · rw [← Function.iterate_succ_apply' f n k, hid k hk]
  · rw [← hid e he, ← hid e' he', Function.iterate_succ_apply, Function.iterate_succ_apply, heq]

/-- Settles O22: the tables are compared with the formulas entry by entry, and each permutation has a power that is
the identity, so it is a bijection. -/
theorem permutationsEqualTheirBitFormulas : Obligations.PermutationsEqualTheirBitFormulas := by
  unfold Obligations.PermutationsEqualTheirBitFormulas
  obtain ⟨hsurj32, hinj32⟩ := bijective_of_iterate s32_lt s32_iterate_three
  obtain ⟨hsurj16, hinj16⟩ := bijective_of_iterate s16_lt s16_iterate_five
  exact ⟨fun e he => ⟨s32_eq_formula e he, s16_eq_formula e he⟩, fun k hk => ⟨hsurj32 k hk, hsurj16 k hk⟩,
    fun e e' he he' => ⟨hinj32 e he e' he', hinj16 e he e' he'⟩⟩

end Sys2Proof.Proofs.Selection

namespace Sys2Proof.Proofs.WriteRoutines
open Sys2Proof.Machine Sys2Proof.Safety Sys2Proof.Proofs.Selection

-- R110, R133: STORE32 and PAIR32.

/-- Settles O40: STORE32 stores the half-words that PAIR32 puts together, at indices that never meet mod 512. -/
theorem pairInvertsStore : Obligations.PairInvertsStore := by
  unfold Obligations.PairInvertsStore
  intro clut e x
  have hne : e % 512 ≠ (e + 256) % 512 := by omega
  have hlo : clutAt (store32 clut e x) e = lo16 x := by simp [clutAt_store32, hne]
  have hhi : clutAt (store32 clut e x) (e + 256) = hi16 x := by simp [clutAt_store32]
  refine ⟨pair32_eq _ _ _ hlo hhi, (clutAt_add_512 _ e).trans hlo, hhi, fun y hylo hyhi => ?_⟩
  simp [clutAt_store32, hylo, hyhi]

/-- A colour of a 32-bit run reads back whole at its own place. -/
theorem pair32_fillClut32 (clut : Vector Half 512) (base n : Nat) (f : Nat → Word) {k : Nat} (hk : k < n)
    (hn : n ≤ 256) : pair32 (fillClut32 clut base n f) (base + k) = f k :=
  pair32_eq _ _ _ (clutAt_fillClut32_lo clut base n f k hk hn) (clutAt_fillClut32_hi clut base n f k hk hn)

/-- What a run leaves in CLUT, in the words of the routines' rules. -/
theorem fillClut_run {clut clut' : Vector Half 512} {base n : Nat} {f : Nat → Half}
    (h : clut' = fillClut clut base n f) (hn : n ≤ 512) :
    (∀ k, k < n → clutAt clut' (base + k) = f k) ∧
    ∀ e, e < 512 → (∀ k, k < n → (base + k) % 512 ≠ e) → clutAt clut' e = clutAt clut e := by
  subst h
  refine ⟨fun k hk => clutAt_fillClut_of_lt clut base n f k hk hn, fun e he hout => ?_⟩
  rw [← Nat.mod_eq_of_lt he] at hout
  exact clutAt_fillClut_of_forall_ne clut base n f e hout

theorem fillClut32_run {clut clut' : Vector Half 512} {base n : Nat} {f : Nat → Word}
    (h : clut' = fillClut32 clut base n f) (hn : n ≤ 256) :
    (∀ k, k < n → clutAt clut' (base + k) = lo16 (f k) ∧ clutAt clut' (base + k + 256) = hi16 (f k)) ∧
    ∀ e, e < 512 → (∀ k, k < n → (base + k) % 512 ≠ e ∧ (base + k + 256) % 512 ≠ e) →
      clutAt clut' e = clutAt clut e := by
  subst h
  refine ⟨fun k hk => ⟨clutAt_fillClut32_lo clut base n f k hk hn, clutAt_fillClut32_hi clut base n f k hk hn⟩,
    fun e he hout => ?_⟩
  rw [← Nat.mod_eq_of_lt he] at hout
  exact clutAt_fillClut32_of_forall_ne clut base n f e hout

-- R101: the routine of each kind of operands.

section
variable {s : State} {t : TexCfg} {c : GatherCfg}

/-- What WRITE does once its routine is known and writes an entry. -/
theorem exec_write_of_routine {routine : WriteRoutine} {clut : Vector Half 512}
    (hroutine : writeRoutine s.config t = routine)
    (hrun : runRoutine routine s.config s.raster s.clut t c = some clut) :
    ∃ u, exec (.write t c) s = .next u ∧ Completed s u (.status .ok) [] ∧ u.clut = clut := by
  obtain ⟨hclut, hdone⟩ := WriteCodecs.afterWrite_of_some (hroutine ▸ hrun)
  exact ⟨_, WriteTracker.exec_write s t c, hdone, hclut⟩

theorem writeRoutine_d32I8 (hcsm : t.csm = .direct) (hdepth : Is32 (depthOf s.config t.cpsm))
    (hiw : indexWidth s.config t.psm = .i8) : writeRoutine s.config t = .d32I8 := by
  rw [writeRoutine, hcsm, hiw]
  exact (dispatchWrite_of_is32 hdepth).1

theorem writeRoutine_d32I4 (hcsm : t.csm = .direct) (hdepth : Is32 (depthOf s.config t.cpsm))
    (hiw : indexWidth s.config t.psm = .i4) : writeRoutine s.config t = .d32I4 := by
  rw [writeRoutine, hcsm, hiw]
  exact (dispatchWrite_of_is32 hdepth).2.1

theorem writeRoutine_d16I8 (hcsm : t.csm = .direct) (hdepth : Is16 (depthOf s.config t.cpsm))
    (hiw : indexWidth s.config t.psm = .i8) : writeRoutine s.config t = .d16I8 := by
  rw [writeRoutine, hcsm, hiw]
  exact (dispatchWrite_of_is16 hdepth).1

theorem writeRoutine_d16I4 (hcsm : t.csm = .direct) (hdepth : Is16 (depthOf s.config t.cpsm))
    (hiw : indexWidth s.config t.psm = .i4) : writeRoutine s.config t = .d16I4 := by
  rw [writeRoutine, hcsm, hiw]
  exact (dispatchWrite_of_is16 hdepth).2.1

/-- The number of entries a gather loads, by its index width (R112). -/
theorem writeRoutine_g32 {n : Nat} (hcsm : t.csm = .gather) (hdepth : Is32 (depthOf s.config t.cpsm))
    (hn : indexWidth s.config t.psm = .i8 ∧ n = 256 ∨ indexWidth s.config t.psm = .i4 ∧ n = 16) :
    writeRoutine s.config t = .g32 n := by
  obtain ⟨-, -, h8, h4⟩ := dispatchWrite_of_is32 hdepth
  rw [writeRoutine, hcsm]
  rcases hn with ⟨hiw, rfl⟩ | ⟨hiw, rfl⟩
  · rw [hiw, h8]
  · rw [hiw, h4]

theorem writeRoutine_g16 {n : Nat} (hcsm : t.csm = .gather) (hdepth : Is16 (depthOf s.config t.cpsm))
    (hn : indexWidth s.config t.psm = .i8 ∧ n = 256 ∨ indexWidth s.config t.psm = .i4 ∧ n = 16) :
    writeRoutine s.config t = .g16 n := by
  obtain ⟨-, -, h8, h4⟩ := dispatchWrite_of_is16 hdepth
  rw [writeRoutine, hcsm]
  rcases hn with ⟨hiw, rfl⟩ | ⟨hiw, rfl⟩
  · rw [hiw, h8]
  · rw [hiw, h4]

end

-- R107 to R109, R111: the direct routines.

/-- Where D32_I8 takes entry e from, as an argument of S32 (R107; decision D18). -/
def sourceEntry (mode : T32I8WriteMode) (csa : BitVec 5) (e : Nat) : Nat :=
  match mode with
  | .absolute => e
  | .relative => e - csaBase csa

/-- Both placements are one run; they differ in the source of an entry. -/
theorem writeD32I8_eq (cfg : Config) (r : Raster) (clut : Vector Half 512) (t : TexCfg) :
    writeD32I8 cfg r clut t = fillClut32 clut (csaBase t.csa) (256 - csaBase t.csa) fun k =>
      r.blkRead32 t.cbp (s32 (sourceEntry cfg.t32I8Write t.csa (csaBase t.csa + k))) := by
  unfold writeD32I8
  cases cfg.t32I8Write <;> simp [sourceEntry]

theorem clutAt_writeD32I8_of_le (cfg : Config) (r : Raster) (clut : Vector Half 512) (t : TexCfg) {e : Nat}
    (he : e < 256) (hle : csaBase t.csa ≤ e) :
    clutAt (writeD32I8 cfg r clut t) e = lo16 (r.blkRead32 t.cbp (s32 (sourceEntry cfg.t32I8Write t.csa e))) ∧
    clutAt (writeD32I8 cfg r clut t) (e + 256) =
      hi16 (r.blkRead32 t.cbp (s32 (sourceEntry cfg.t32I8Write t.csa e))) := by
  obtain ⟨k, rfl⟩ := Nat.exists_eq_add_of_le hle
  rw [writeD32I8_eq]
  exact ⟨clutAt_fillClut32_lo _ _ _ _ k (by omega) (by omega), clutAt_fillClut32_hi _ _ _ _ k (by omega) (by omega)⟩

theorem clutAt_writeD32I8_of_lt (cfg : Config) (r : Raster) (clut : Vector Half 512) (t : TexCfg) {e : Nat}
    (he : e < 256) (hlt : e < csaBase t.csa) :
    clutAt (writeD32I8 cfg r clut t) e = clutAt clut e ∧
    clutAt (writeD32I8 cfg r clut t) (e + 256) = clutAt clut (e + 256) := by
  rw [writeD32I8_eq]
  constructor
  · exact clutAt_fillClut32_of_forall_ne _ _ _ _ _ fun k hk => by omega
  · exact clutAt_fillClut32_of_forall_ne _ _ _ _ _ fun k hk => by omega

/-- Settles O23: an entry from the storage offset on is in the run, one below it is not, in both halves of CLUT. -/
theorem direct32Index8FillsFromTheStorageOffset : Obligations.Direct32Index8FillsFromTheStorageOffset := by
  unfold Obligations.Direct32Index8FillsFromTheStorageOffset
  intro t c s hcsm hdepth hiw
  obtain ⟨u, hexec, hdone, hclut⟩ :=
    exec_write_of_routine (c := c) (writeRoutine_d32I8 hcsm hdepth hiw) rfl
  refine ⟨u, hexec, hdone, fun e he => ⟨fun hle => ?_, fun hlt => ?_⟩⟩
  · have hentry := clutAt_writeD32I8_of_le s.config s.raster s.clut t he hle
    rw [← hclut] at hentry
    refine ⟨fun hmode => ?_, fun hmode => ?_⟩
    · rwa [hmode] at hentry
    · rwa [hmode] at hentry
  · rw [hclut]
    exact clutAt_writeD32I8_of_lt s.config s.raster s.clut t he hlt

/-- Settles O24: a run of 16 colours, read as two planes. -/
theorem direct32Index4LoadsSixteenColours : Obligations.Direct32Index4LoadsSixteenColours := by
  unfold Obligations.Direct32Index4LoadsSixteenColours
  intro t c s hcsm hdepth hiw
  obtain ⟨u, hexec, hdone, hclut⟩ :=
    exec_write_of_routine (c := c) (writeRoutine_d32I4 hcsm hdepth hiw) rfl
  exact ⟨u, hexec, hdone, fillClut32_run hclut (by omega)⟩

/-- The view is that of the depth (R103; decision D38). -/
theorem view16_of_depth (r : Raster) (d : Depth) (b : BlockNum) (k : Nat) :
    (d = .d16 → view16 r d b k = r.blkRead16 b k) ∧ (d = .d16s → view16 r d b k = r.blkRead16S b k) := by
  constructor
  · rintro rfl; rfl
  · rintro rfl; rfl

/-- Settles O25: a run of 256 entries, which never meets itself, from the view of the depth. -/
theorem direct16Index8LoadsAndWraps : Obligations.Direct16Index8LoadsAndWraps := by
  unfold Obligations.Direct16Index8LoadsAndWraps
  intro t c s hcsm hdepth hiw
  obtain ⟨u, hexec, hdone, hclut⟩ :=
    exec_write_of_routine (c := c) (writeRoutine_d16I8 hcsm hdepth hiw) rfl
  obtain ⟨hin, hout⟩ := fillClut_run hclut (by omega)
  refine ⟨u, hexec, hdone, fun k hk => ?_, hout⟩
  rw [← csaBase, hin k hk]
  exact view16_of_depth _ _ _ _

/-- Settles O26: a run of 16 entries that ends at 511 at the latest, so it is an interval. -/
theorem direct16Index4LoadsSixteenEntries : Obligations.Direct16Index4LoadsSixteenEntries := by
  unfold Obligations.Direct16Index4LoadsSixteenEntries
  intro t c s hcsm hdepth hiw
  obtain ⟨u, hexec, hdone, hclut⟩ :=
    exec_write_of_routine (c := c) (writeRoutine_d16I4 hcsm hdepth hiw) rfl
  obtain ⟨hin, hout⟩ := fillClut_run hclut (by omega)
  refine ⟨u, hexec, hdone, fun j hj => ?_, fun e he hinterval => hout e he fun j hj => ?_⟩
  · rw [← csaBase, hin j hj]
    exact view16_of_depth _ _ _ _
  · have hcsa := t.csa.isLt
    unfold csaBase
    omega

-- R112 to R114: the gather routines.

theorem gather32BaseEntry_eq {cfg : Config} {t : TexCfg} {base : Nat}
    (h : cfg.gather32Base = .mod16 ∧ base = 16 * (t.csa.toNat % 16) ∨ cfg.gather32Base = .zero ∧ base = 0) :
    gather32BaseEntry cfg t = base := by
  rcases h with ⟨hmode, rfl⟩ | ⟨hmode, rfl⟩ <;> simp [gather32BaseEntry, hmode]

theorem gatherCount_le {iw : IndexWidth} {n : Nat} (h : iw = .i8 ∧ n = 256 ∨ iw = .i4 ∧ n = 16) : n ≤ 256 := by
  omega

/-- Settles O27: a run of n colours from the configured base, each read where the resolver points. -/
theorem gather32SplitsIntoTwoPlanes : Obligations.Gather32SplitsIntoTwoPlanes := by
  unfold Obligations.Gather32SplitsIntoTwoPlanes
  intro t c s n base hcsm hdepth hn hbase
  obtain ⟨u, hexec, hdone, hclut⟩ :=
    exec_write_of_routine (c := c) (writeRoutine_g32 hcsm hdepth hn) rfl
  rw [writeG32, gather32BaseEntry_eq hbase] at hclut
  exact ⟨u, hexec, hdone, fillClut32_run hclut (gatherCount_le hn)⟩

/-- Settles O28: a run of n entries from the storage offset, each read where the resolver points. -/
theorem gather16CopiesAtTheStorageOffset : Obligations.Gather16CopiesAtTheStorageOffset := by
  unfold Obligations.Gather16CopiesAtTheStorageOffset
  intro t c s n hcsm hdepth hn
  obtain ⟨u, hexec, hdone, hclut⟩ :=
    exec_write_of_routine (c := c) (writeRoutine_g16 hcsm hdepth hn) rfl
  have hle := gatherCount_le hn
  exact ⟨u, hexec, hdone, fillClut_run hclut (by omega)⟩

-- R44, R83: a direct routine reads the blocks of its footprint.

theorem fillClut_congr (clut : Vector Half 512) (base : Nat) {n : Nat} {f g : Nat → Half}
    (h : ∀ k < n, f k = g k) : fillClut clut base n f = fillClut clut base n g := by
  refine clut_ext fun e => ?_
  rw [clutAt_fillClut, clutAt_fillClut]
  split
  · next hd => exact h _ hd
  · rfl

theorem fillClut32_congr (clut : Vector Half 512) (base : Nat) {n : Nat} {f g : Nat → Word}
    (h : ∀ k < n, f k = g k) : fillClut32 clut base n f = fillClut32 clut base n g := by
  unfold fillClut32
  rw [fillClut_congr clut base fun k hk => congrArg lo16 (h k hk)]
  exact fillClut_congr _ _ fun k hk => congrArg hi16 (h k hk)

/-- The source of an entry that D32_I8 fills is an element of the view. -/
theorem sourceEntry_le (mode : T32I8WriteMode) (csa : BitVec 5) (e : Nat) : sourceEntry mode csa e ≤ e := by
  cases mode
  · exact le_rfl
  · exact Nat.sub_le e _

/-- The first 16 elements of the permuted order lie in the view's first block. -/
theorem s32_lt_of_lt_16 : ∀ j < 16, s32 j < 64 := by decide +kernel

theorem s16_lt_of_lt_16 : ∀ j < 16, s16 j < 128 := by decide +kernel

section
variable {cfg : Config} {t : TexCfg} {r r' : Raster} {n : Nat} (clut : Vector Half 512)

theorem writeD32I8_congr (h : AgreeOnBlocks r r' t.cbp n) (hn : 4 ≤ n) :
    writeD32I8 cfg r clut t = writeD32I8 cfg r' clut t := by
  rw [writeD32I8_eq, writeD32I8_eq]
  refine fillClut32_congr _ _ fun k hk => ?_
  have hsource := sourceEntry_le cfg.t32I8Write t.csa (csaBase t.csa + k)
  have hlt := s32_lt _ (show sourceEntry cfg.t32I8Write t.csa (csaBase t.csa + k) < 256 by omega)
  exact h.1 _ hlt (by omega)

theorem writeD32I4_congr (h : AgreeOnBlocks r r' t.cbp n) (hn : 0 < n) :
    writeD32I4 r clut t = writeD32I4 r' clut t := by
  refine fillClut32_congr _ _ fun j hj => ?_
  have hlt := s32_lt_of_lt_16 j hj
  exact h.1 _ (by omega) (by omega)

theorem view16_congr (h : AgreeOnBlocks r r' t.cbp n) (d : Depth) {k : Nat} (hk : k < 256) (hn : k / 128 < n) :
    view16 r d t.cbp k = view16 r' d t.cbp k := by
  obtain ⟨-, h16, h16S⟩ := h
  unfold view16
  split
  · exact h16S k hk hn
  · exact h16 k hk hn

theorem writeD16I8_congr (h : AgreeOnBlocks r r' t.cbp n) (hn : 2 ≤ n) :
    writeD16I8 cfg r clut t = writeD16I8 cfg r' clut t := by
  refine fillClut_congr _ _ fun k hk => ?_
  have hlt := s16_lt k hk
  exact view16_congr h _ hlt (by omega)

theorem writeD16I4_congr (h : AgreeOnBlocks r r' t.cbp n) (hn : 0 < n) :
    writeD16I4 cfg r clut t = writeD16I4 cfg r' clut t := by
  refine fillClut_congr _ _ fun j hj => ?_
  have hlt := s16_lt_of_lt_16 j hj
  exact view16_congr h _ (by omega) (by omega)

/-- An 8-bit index is not stored in a 4-bit format, so its footprint is not halved for it; a 4-bit palette lies in
its footprint's first block whatever that is. -/
theorem runRoutine_congr (c : GatherCfg) (hcsm : t.csm = .direct)
    (hbpp : (fmtOf cfg t.psm).bpp = .b4 → (fmtOf cfg t.psm).pal ≠ 256)
    (h : AgreeOnBlocks r r' t.cbp (footprint cfg t)) :
    runRoutine (writeRoutine cfg t) cfg r clut t c = runRoutine (writeRoutine cfg t) cfg r' clut t c := by
  have hpos := footprint_pos cfg t
  obtain ⟨-, hfoot16, -, hfoot32⟩ := footprintHalvesWithBitDepths cfg t
  have hnot4 (hiw : indexWidth cfg t.psm = .i8) : (fmtOf cfg t.psm).bpp ≠ .b4 :=
    fun hb4 => hbpp hb4 ((indexWidth_eq_i8_iff cfg t.psm).mp hiw)
  unfold writeRoutine
  rw [hcsm]
  cases hiw : indexWidth cfg t.psm with
  | none => rw [WriteCodecs.dispatchWrite_of_unsupported (.inr rfl)]; rfl
  | i8 =>
    rcases depth_cases (depthOf cfg t.cpsm) with hdepth | hdepth | hdepth
    · rw [(dispatchWrite_of_is32 hdepth).1]
      have hfoot := hfoot32 ⟨not_is16_of_is32 hdepth, hnot4 hiw⟩
      exact congrArg some (writeD32I8_congr clut h (by omega))
    · rw [(dispatchWrite_of_is16 hdepth).1]
      have hfoot := hfoot16 ⟨hdepth, hnot4 hiw⟩
      exact congrArg some (writeD16I8_congr clut h (by omega))
    · rw [WriteCodecs.dispatchWrite_of_unsupported (.inl hdepth)]; rfl
  | i4 =>
    rcases depth_cases (depthOf cfg t.cpsm) with hdepth | hdepth | hdepth
    · rw [(dispatchWrite_of_is32 hdepth).2.1]
      exact congrArg some (writeD32I4_congr clut h hpos)
    · rw [(dispatchWrite_of_is16 hdepth).2.1]
      exact congrArg some (writeD16I4_congr clut h hpos)
    · rw [WriteCodecs.dispatchWrite_of_unsupported (.inl hdepth)]; rfl

end

theorem afterWrite_clut (s : State) (t : TexCfg) (c : GatherCfg) :
    (WriteTracker.afterWrite s t c).clut =
      (runRoutine (writeRoutine s.config t) s.config s.raster s.clut t c).getD s.clut := by
  simp [WriteTracker.afterWrite, writePalette_fst]

/-- Settles O30: the routine's answer is the same for both images, and it decides CLUT. -/
theorem directWriteReadsOnlyItsFootprint : Obligations.DirectWriteReadsOnlyItsFootprint := by
  unfold Obligations.DirectWriteReadsOnlyItsFootprint
  intro t c s r hcsm hbpp hagree
  refine ⟨_, _, WriteTracker.exec_write s t c, WriteTracker.exec_write (s.setRaster r) t c, ?_⟩
  rw [afterWrite_clut, afterWrite_clut, runRoutine_congr s.clut c hcsm hbpp hagree]
  rfl

end Sys2Proof.Proofs.WriteRoutines

namespace Sys2Proof.Proofs.ReadExpand
open Sys2Proof.Machine Sys2Proof.Safety Sys2Proof.Proofs.Selection

-- R140: EXPAND16 is four fields side by side.

/-- A field placed in a word reads back at its own bits. -/
theorem extract_shift_self {n : Nat} (v : BitVec n) (lo : Nat) (h : lo + n ≤ 32) :
    (v.setWidth 32 <<< lo).extractLsb' lo n = v := by
  ext i hi
  simp [show lo + i < 32 by omega, BitVec.getLsbD_eq_getElem hi]

/-- A field placed in a word shows nothing at bits beside it. -/
theorem extract_shift_disjoint {n : Nat} (v : BitVec n) (lo a m : Nat) (h : lo + n ≤ a ∨ a + m ≤ lo) :
    (v.setWidth 32 <<< lo).extractLsb' a m = 0 := by
  ext i hi
  rcases h with h | h
  · simp [BitVec.getLsbD_of_ge v (a + i - lo) (by omega)]
  · simp [show a + i < lo by omega]

theorem extract_expand16_alpha (v : Half) (a : AlphaCfg) : (expand16 v a).extractLsb' 24 8 = alpha16 v a := by
  simp [expand16, BitVec.extractLsb'_or, extract_shift_self, extract_shift_disjoint]

/-- The three colour fields, and the three bits below each. -/
theorem extract_expand16_colour (v : Half) (a : AlphaCfg) :
    (expand16 v a).extractLsb' 19 5 = v.extractLsb' 10 5 ∧ (expand16 v a).extractLsb' 16 3 = 0 ∧
    (expand16 v a).extractLsb' 11 5 = v.extractLsb' 5 5 ∧ (expand16 v a).extractLsb' 8 3 = 0 ∧
    (expand16 v a).extractLsb' 3 5 = v.extractLsb' 0 5 ∧ (expand16 v a).extractLsb' 0 3 = 0 := by
  simp [expand16, BitVec.extractLsb'_or, extract_shift_self, extract_shift_disjoint]

theorem topBit_iff (v : Half) : v.extractLsb' 15 1 = 1 ↔ v.getLsbD 15 = true := by
  constructor
  · intro h
    simpa using congrArg (BitVec.getLsbD · 0) h
  · intro h
    ext i hi
    obtain rfl : i = 0 := by omega
    simpa using h

theorem alpha16_excluded {v : Half} {a : AlphaCfg} (h : a.aem = true ∧ v = 0) : alpha16 v a = 0 := by
  simp [alpha16, h]

theorem alpha16_selected {v : Half} {a : AlphaCfg} (h : ¬ (a.aem = true ∧ v = 0)) :
    alpha16 v a = if v.getLsbD 15 then a.ta1 else a.ta0 := by
  have hnot : ¬ ((a.aem && v == 0) = true) := by simpa using h
  simp only [alpha16, if_neg hnot, topBit_iff]

/-- Settles O39: the fields of EXPAND16, with the alpha byte by exclusion and then by the top bit. -/
theorem expandedEntryLayout : Obligations.ExpandedEntryLayout := by
  unfold Obligations.ExpandedEntryLayout
  intro v a
  rw [extract_expand16_alpha]
  refine ⟨alpha16_excluded, fun h htop => ?_, fun h htop => ?_, extract_expand16_colour v a⟩
  · rw [alpha16_selected h, htop, if_pos rfl]
  · rw [alpha16_selected h, htop, if_neg Bool.false_ne_true]

-- R130, R131: the states a hit and a miss end in.

section
variable (s : State) (t : TexCfg) (a : AlphaCfg)

/-- The state a READ hit ends in. -/
def afterHit : State :=
  (s.refreshRead t a).complete (paletteResult (s.refreshRead t a) false) []

/-- The state of a READ miss when its path has run. -/
def expanded : State :=
  runPath (readPath s.config t) (s.beginExpand t a) t a

/-- The state a READ miss ends in. -/
def afterMiss : State :=
  (expanded s t a).complete (paletteResult (expanded s t a) true) []

theorem expanded_frame :
    (expanded s t a).rTex = t ∧ (expanded s t a).rAlpha = a ∧ (expanded s t a).rDirty = false ∧
    (expanded s t a).rAlphaDirty = true ∧ (expanded s t a).rAmin = s.rAmin ∧ (expanded s t a).rAmax = s.rAmax ∧
    SameClut s (expanded s t a) ∧ SameWriteSnapshot s (expanded s t a) ∧ (expanded s t a).wDirty = s.wDirty ∧
    SameLc s (expanded s t a) ∧ SameSurroundings s (expanded s t a) ∧ (expanded s t a).cmdIndex = s.cmdIndex := by
  obtain ⟨x, y, h⟩ := runPath_eq (readPath s.config t) (s.beginExpand t a) t a
  simp [expanded, h, SameClut, SameWriteSnapshot, SameLc, SameSurroundings]

variable {s t a}

theorem exec_read_of_hit (h : readDirty s t a = false) : exec (.read t a) s = .next (afterHit s t a) :=
  AlphaRange.exec_read_of_hit h

theorem exec_read_of_miss (h : readDirty s t a = true) : exec (.read t a) s = .next (afterMiss s t a) := by
  simp only [exec, execRead, h, if_true]
  rfl

end

/-- Settles O32: a hit is `refreshRead`, completed with copies of the buffers it keeps. -/
theorem readHitRefreshesTheSnapshotOnly : Obligations.ReadHitRefreshesTheSnapshotOnly := by
  unfold Obligations.ReadHitRefreshesTheSnapshotOnly
  intro t a s h
  refine ⟨_, exec_read_of_hit h, ?_⟩
  simp [afterHit, paletteResult, Completed, SameMemo, SameBuffers, SameClut, SameWriteSnapshot, SameLc,
    SameSurroundings]

/-- Settles O33: the frame of a miss is that of `beginExpand`, since its path changes the buffers only. -/
theorem readMissRecordsTheSnapshot : Obligations.ReadMissRecordsTheSnapshot := by
  unfold Obligations.ReadMissRecordsTheSnapshot
  intro t a s h
  obtain ⟨htex, halpha, hdirty, hadirty, hamin, hamax, hclut, hsnap, hwrite, hlc, hsur, hindex⟩ :=
    expanded_frame s t a
  exact ⟨_, exec_read_of_miss h, ⟨rfl, congrArg (· + 1) hindex⟩, htex, halpha, hdirty, hadirty, hamin, hamax, hclut,
    hsnap, hwrite, hlc, hsur⟩

/-- R130: whether it hits or misses, a READ leaves its operands as a current snapshot. -/
theorem exec_read_current (s : State) (t : TexCfg) (a : AlphaCfg) :
    ∃ u, exec (.read t a) s = .next u ∧ u.rTex = t ∧ u.rAlpha = a ∧ u.rDirty = false ∧ u.config = s.config := by
  cases h : readDirty s t a
  · obtain ⟨hdirty, -, -⟩ := AlphaRange.readDirty_eq_false_iff.mp h
    exact ⟨_, exec_read_of_hit h, rfl, rfl, hdirty, rfl⟩
  · obtain ⟨htex, halpha, hdirty, -, -, -, -, -, -, -, ⟨-, -, hcfg, -⟩, -⟩ := expanded_frame s t a
    exact ⟨_, exec_read_of_miss h, htex, halpha, hdirty, hcfg⟩

theorem alphaDiffers_self (cfg : Config) (d : Depth) (a : AlphaCfg) : alphaDiffers cfg d a a = false := by
  cases d <;> simp [alphaDiffers]

/-- Settles O43: the second READ's operands differ from the snapshot in PSM and CLD only, and RDIRTY looks at the
format's bit depth. -/
theorem equalBitDepthSwitchIsAHit : Obligations.EqualBitDepthSwitchIsAHit := by
  unfold Obligations.EqualBitDepthSwitchIsAHit
  intro t a p x s hbpp
  obtain ⟨u, hexec, htex, halpha, hdirty, hcfg⟩ := exec_read_current s t a
  have hhit : readDirty u { t with psm := p, cld := x } a = false := by
    simp [readDirty, texDiffers, alphaDiffers_self, htex, halpha, hdirty, hcfg, hbpp]
  exact ⟨u, _, hexec, exec_read_of_hit hhit, ⟨rfl, rfl⟩, ⟨rfl, rfl⟩, rfl⟩

-- R132 to R138: what each path leaves in the buffers.

/-- The number of entries of BUF32 that a path writes. -/
def pathCount : ExpandPath → Nat
  | .e32I8 => 256
  | .e32I4 => 16
  | .e16I8 => 256
  | .e16I4 => 16
  | .none => 0

theorem rewriteBuf32_zero (buf : Vector Word 256) (f : Nat → Word) : rewriteBuf32 buf 0 f = buf := by
  ext i hi
  simp [rewriteBuf32]

section
variable (s : State) (t : TexCfg) (a : AlphaCfg)

/-- A path fills the first entries of BUF32 with a fresh expansion under the operands. -/
theorem expanded_buf32 : (expanded s t a).buf32 =
    rewriteBuf32 s.buf32 (pathCount (readPath s.config t))
      (freshEntry (readPath s.config t) (s.beginExpand t a)) := by
  unfold expanded
  cases readPath s.config t with
  | e32I8 => rfl
  | e32I4 => rfl
  | e16I8 => rfl
  | e16I4 => rfl
  | none => exact (rewriteBuf32_zero _ _).symm

theorem afterMiss_buf32_of_lt {path : ExpandPath} (hpath : readPath s.config t = path) {k : Nat} (hk : k < 256)
    (hlt : k < pathCount path) :
    buf32At (afterMiss s t a).buf32 k = freshEntry path (s.beginExpand t a) k := by
  subst hpath
  exact (congrArg (buf32At · k) (expanded_buf32 s t a)).trans ((buf32At_rewrite _ _ _ k hk).trans (if_pos hlt))

theorem afterMiss_buf32_of_le {path : ExpandPath} (hpath : readPath s.config t = path) {k : Nat} (hk : k < 256)
    (hle : pathCount path ≤ k) : buf32At (afterMiss s t a).buf32 k = buf32At s.buf32 k := by
  subst hpath
  exact (congrArg (buf32At · k) (expanded_buf32 s t a)).trans
    ((buf32At_rewrite _ _ _ k hk).trans (if_neg (Nat.not_lt.mpr hle)))

/-- The 4-bit paths replicate the buffer they have just written. -/
theorem afterMiss_buf64_of_i4 (hpath : readPath s.config t = .e32I4 ∨ readPath s.config t = .e16I4) {k : Nat}
    (hk : k < 256) : buf64At (afterMiss s t a).buf64 k = dualEntry (afterMiss s t a).buf32 k := by
  unfold afterMiss expanded
  rcases hpath with hpath | hpath
  · rw [hpath]
    exact buf64At_replicate64 _ k hk
  · rw [hpath]
    exact buf64At_replicate64 _ k hk

theorem afterMiss_buf64_of_i8 (hpath : readPath s.config t = .e32I8 ∨ readPath s.config t = .e16I8) :
    (afterMiss s t a).buf64 = s.buf64 := by
  rcases hpath with hpath | hpath <;> simp [afterMiss, expanded, hpath, runPath]

variable {s t}

theorem readPath_e32I8 (hdepth : Is32 (depthOf s.config t.cpsm)) (hiw : indexWidth s.config t.psm = .i8) :
    readPath s.config t = .e32I8 := by
  rw [readPath, hiw]
  exact (expandPath_of_is32 hdepth).1

theorem readPath_e32I4 (hdepth : Is32 (depthOf s.config t.cpsm)) (hiw : indexWidth s.config t.psm = .i4) :
    readPath s.config t = .e32I4 := by
  rw [readPath, hiw]
  exact (expandPath_of_is32 hdepth).2

theorem readPath_e16I8 (hdepth : Is16 (depthOf s.config t.cpsm)) (hiw : indexWidth s.config t.psm = .i8) :
    readPath s.config t = .e16I8 := by
  rw [readPath, hiw]
  exact (expandPath_of_is16 hdepth).1

theorem readPath_e16I4 (hdepth : Is16 (depthOf s.config t.cpsm)) (hiw : indexWidth s.config t.psm = .i4) :
    readPath s.config t = .e16I4 := by
  rw [readPath, hiw]
  exact (expandPath_of_is16 hdepth).2

end

/-- Settles O34: entry 16g + j is entry j of the clamped group g. -/
theorem expand32Index8ClampsPerGroup : Obligations.Expand32Index8ClampsPerGroup := by
  unfold Obligations.Expand32Index8ClampsPerGroup
  intro t a s hmiss hdepth hiw
  have hpath := readPath_e32I8 hdepth hiw
  refine ⟨_, exec_read_of_miss hmiss, afterMiss_buf64_of_i8 s t a (.inl hpath), fun g j hg hj => ?_⟩
  have hclamp : min (16 * (t.csa.toNat + (16 * g + j) / 16)) 240 + (16 * g + j) % 16 =
      if t.csa.toNat + g ≤ 15 then 16 * (t.csa.toNat + g) + j else 240 + j := by
    split <;> omega
  have hk : 16 * g + j < 256 := by omega
  calc buf32At (afterMiss s t a).buf32 (16 * g + j)
      _ = pair32 s.clut (min (16 * (t.csa.toNat + (16 * g + j) / 16)) 240 + (16 * g + j) % 16) :=
        afterMiss_buf32_of_lt s t a hpath hk hk
      _ = _ := by rw [hclamp]; rfl

/-- Settles O35: the first 16 entries are fresh, the others kept, and BUF64 is made of the result. -/
theorem expand32Index4RewritesSixteenAndReplicates : Obligations.Expand32Index4RewritesSixteenAndReplicates := by
  unfold Obligations.Expand32Index4RewritesSixteenAndReplicates
  intro t a s hmiss hdepth hiw
  have hpath := readPath_e32I4 hdepth hiw
  exact ⟨_, exec_read_of_miss hmiss, fun j hj => afterMiss_buf32_of_lt s t a hpath (by omega) hj,
    fun k hle hk => afterMiss_buf32_of_le s t a hpath hk hle,
    fun k hk => afterMiss_buf64_of_i4 s t a (.inl hpath) hk⟩

/-- Settles O36: all 256 entries are fresh, and the path has no BUF64 step. -/
theorem expand16Index8WidensAllEntries : Obligations.Expand16Index8WidensAllEntries := by
  unfold Obligations.Expand16Index8WidensAllEntries
  intro t a s hmiss hdepth hiw
  have hpath := readPath_e16I8 hdepth hiw
  exact ⟨_, exec_read_of_miss hmiss, afterMiss_buf64_of_i8 s t a (.inr hpath),
    fun k hk => afterMiss_buf32_of_lt s t a hpath hk hk⟩

/-- Settles O37: as for E32_I4, with entries widened by EXPAND16. -/
theorem expand16Index4WidensAndReplicates : Obligations.Expand16Index4WidensAndReplicates := by
  unfold Obligations.Expand16Index4WidensAndReplicates
  intro t a s hmiss hdepth hiw
  have hpath := readPath_e16I4 hdepth hiw
  exact ⟨_, exec_read_of_miss hmiss, fun j hj => afterMiss_buf32_of_lt s t a hpath (by omega) hj,
    fun k hle hk => afterMiss_buf32_of_le s t a hpath hk hle,
    fun k hk => afterMiss_buf64_of_i4 s t a (.inr hpath) hk⟩

-- R116: a WRITE and the READ after it.

/-- A WRITE makes the next READ a miss, which reads what the WRITE left in CLUT. -/
theorem exec_read_afterWrite (s : State) (t : TexCfg) (c : GatherCfg) (a : AlphaCfg) :
    exec (.read t a) (WriteTracker.afterWrite s t c) = .next (afterMiss (WriteTracker.afterWrite s t c) t a) := by
  obtain ⟨-, -, -, hdirty⟩ := WriteCodecs.afterWrite_commits s t c
  exact exec_read_of_miss (by simp [readDirty, hdirty])

theorem readPath_afterWrite (s : State) (t : TexCfg) (c : GatherCfg) :
    readPath (WriteTracker.afterWrite s t c).config t = readPath s.config t := by
  obtain ⟨-, -, -, -, -, -, hcfg, -⟩ := WriteCodecs.afterWrite_frame s t c
  rw [hcfg]

/-- Settles O41: at CSA 0 no group is clamped, and each colour's half-words stand 256 apart where E32_I8 reads them. -/
theorem writeThenReadReturnsTheColours : Obligations.WriteThenReadReturnsTheColours := by
  unfold Obligations.WriteThenReadReturnsTheColours
  intro t c a s hcsm hdepth hiw hcsa
  refine ⟨_, _, WriteTracker.exec_write s t c, exec_read_afterWrite s t c a, fun e he => ?_⟩
  have hpath := (readPath_afterWrite s t c).trans (readPath_e32I8 hdepth hiw)
  have hclut : (WriteTracker.afterWrite s t c).clut = writeD32I8 s.config s.raster s.clut t := by
    rw [WriteRoutines.afterWrite_clut, WriteRoutines.writeRoutine_d32I8 hcsm hdepth hiw]
    rfl
  have hplace : min (16 * (t.csa.toNat + e / 16)) 240 + e % 16 = e := by
    have hzero : t.csa.toNat = 0 := by simp [hcsa]
    omega
  have hsource : WriteRoutines.sourceEntry s.config.t32I8Write t.csa e = e := by
    cases s.config.t32I8Write <;> simp [WriteRoutines.sourceEntry, csaBase, hcsa]
  obtain ⟨hlo, hhi⟩ := WriteRoutines.clutAt_writeD32I8_of_le s.config s.raster s.clut t he (by simp [csaBase, hcsa])
  rw [hsource] at hlo hhi
  calc buf32At (afterMiss (WriteTracker.afterWrite s t c) t a).buf32 e
      _ = pair32 (WriteTracker.afterWrite s t c).clut (min (16 * (t.csa.toNat + e / 16)) 240 + e % 16) :=
        afterMiss_buf32_of_lt _ t a hpath he he
      _ = pair32 (writeD32I8 s.config s.raster s.clut t) e := by rw [hplace, hclut]
      _ = s.raster.blkRead32 t.cbp (s32 e) := pair32_eq _ _ _ hlo hhi

/-- Settles O42: D32_I4 and E32_I4 use the same base, mod 512, at every CSA. -/
theorem writeThenReadFourBitIndexAtEveryOffset : Obligations.WriteThenReadFourBitIndexAtEveryOffset := by
  unfold Obligations.WriteThenReadFourBitIndexAtEveryOffset
  intro t c a s hcsm hdepth hiw
  refine ⟨_, _, WriteTracker.exec_write s t c, exec_read_afterWrite s t c a, fun j hj => ?_⟩
  have hpath := (readPath_afterWrite s t c).trans (readPath_e32I4 hdepth hiw)
  have hclut : (WriteTracker.afterWrite s t c).clut = writeD32I4 s.raster s.clut t := by
    rw [WriteRoutines.afterWrite_clut, WriteRoutines.writeRoutine_d32I4 hcsm hdepth hiw]
    rfl
  calc buf32At (afterMiss (WriteTracker.afterWrite s t c) t a).buf32 j
      _ = pair32 (WriteTracker.afterWrite s t c).clut (csaBase t.csa + j) :=
        afterMiss_buf32_of_lt _ t a hpath (by omega) hj
      _ = pair32 (writeD32I4 s.raster s.clut t) (csaBase t.csa + j) := by rw [hclut]
      _ = s.raster.blkRead32 t.cbp (s32 j) := WriteRoutines.pair32_fillClut32 _ _ _ _ hj (by omega)

end Sys2Proof.Proofs.ReadExpand

namespace Sys2Proof.Proofs.AlphaScan
open Sys2Proof.Machine Sys2Proof.Safety Sys2Proof.Proofs.Selection Sys2Proof.Proofs.AlphaRange

-- R160, R174: the two faults.

section
variable {s : State}

theorem exec_alphaMinMax_of_stale (h : s.rDirty = true) : exec .alphaMinMax s = .fault .alphaPrecond := by
  simp [exec, execAlphaMinMax, h, raise]

theorem exec_alphaMinMax_of_noPath (hcurrent : s.rDirty = false) (hpath : readPath s.config s.rTex = .none) :
    exec .alphaMinMax s = .fault .alphaPal := by
  simp [exec, execAlphaMinMax, hcurrent, hpath, raise]

end

theorem readPath_eq_none_iff (cfg : Config) (t : TexCfg) :
    readPath cfg t = .none ↔ depthOf cfg t.cpsm = .other ∨ indexWidth cfg t.psm = .none :=
  expandPath_eq_none_iff _ _

/-- Settles O44: the test of R.dirty comes first, and a palette of neither 16 nor 256 entries has no path. -/
theorem alphaQueryFaultsInOrder : Obligations.AlphaQueryFaultsInOrder := by
  unfold Obligations.AlphaQueryFaultsInOrder
  intro s
  refine ⟨exec_alphaMinMax_of_stale, fun hcurrent h => exec_alphaMinMax_of_noPath hcurrent ?_⟩
  rwa [readPath_eq_none_iff, indexWidth_eq_none_iff]

/-- Settles O38: without a path a miss ends with the buffers it began with, and its snapshot has no path for the
query either. -/
theorem readMissWithoutPathKeepsTheBuffers : Obligations.ReadMissWithoutPathKeepsTheBuffers := by
  unfold Obligations.ReadMissWithoutPathKeepsTheBuffers
  intro t a s hmiss h
  have hpath : readPath s.config t = .none := (readPath_eq_none_iff _ _).mpr h
  have hafter : ReadExpand.afterMiss s t a =
      (s.beginExpand t a).complete (.palette s.buf32 s.buf64 true) [] := by
    simp only [ReadExpand.afterMiss, ReadExpand.expanded, hpath]
    rfl
  refine ⟨_, ReadExpand.exec_read_of_miss hmiss, ?_⟩
  rw [hafter]
  exact ⟨⟨rfl, rfl⟩, ⟨rfl, rfl⟩, rfl, rfl, rfl, rfl, exec_alphaMinMax_of_noPath rfl hpath⟩

-- R162: SCAN's pair is the exact range of the alpha bytes it looks at.

theorem byteMin_toNat (a b : Byte) : (byteMin a b).toNat = min a.toNat b.toNat := by
  unfold byteMin
  split <;> omega

theorem byteMax_toNat (a b : Byte) : (byteMax a b).toNat = max a.toNat b.toNat := by
  unfold byteMax
  split <;> omega

theorem byteMin_eq (a b : Byte) : byteMin a b = a ∨ byteMin a b = b := by
  unfold byteMin
  split <;> simp

theorem byteMax_eq (a b : Byte) : byteMax a b = a ∨ byteMax a b = b := by
  unfold byteMax
  split <;> simp

theorem scanStep_toNat (p : Byte × Byte) (x : Word) :
    (scanStep p x).1.toNat = min p.1.toNat (alphaByte x).toNat ∧
    (scanStep p x).2.toNat = max p.2.toNat (alphaByte x).toNat :=
  ⟨byteMin_toNat _ _, byteMax_toNat _ _⟩

/-- The pair of a run of SCAN's loop bounds the pair it began with and every alpha byte it passed. -/
theorem foldl_scanStep_bounds (l : List Word) (p : Byte × Byte) :
    (l.foldl scanStep p).1.toNat ≤ p.1.toNat ∧ p.2.toNat ≤ (l.foldl scanStep p).2.toNat ∧
    ∀ x ∈ l, (l.foldl scanStep p).1.toNat ≤ (alphaByte x).toNat ∧
      (alphaByte x).toNat ≤ (l.foldl scanStep p).2.toNat := by
  induction l generalizing p with
  | nil => simp
  | cons x l ih =>
    obtain ⟨hlo, hhi, hmem⟩ := ih (scanStep p x)
    obtain ⟨hmin, hmax⟩ := scanStep_toNat p x
    rw [List.foldl_cons]
    refine ⟨by omega, by omega, fun y hy => ?_⟩
    rcases List.mem_cons.mp hy with rfl | hy
    · omega
    · exact hmem y hy

/-- Each end of the pair is where it began or the alpha byte of an entry passed. -/
theorem foldl_scanStep_attained (l : List Word) (p : Byte × Byte) :
    ((l.foldl scanStep p).1 = p.1 ∨ ∃ x ∈ l, alphaByte x = (l.foldl scanStep p).1) ∧
    ((l.foldl scanStep p).2 = p.2 ∨ ∃ x ∈ l, alphaByte x = (l.foldl scanStep p).2) := by
  induction l generalizing p with
  | nil => simp
  | cons x l ih =>
    obtain ⟨hlo, hhi⟩ := ih (scanStep p x)
    rw [List.foldl_cons]
    constructor
    · rcases hlo with hlo | ⟨y, hy, hlo⟩
      · rw [hlo]
        exact (byteMin_eq p.1 (alphaByte x)).imp id fun h => ⟨x, List.mem_cons_self, h.symm⟩
      · exact .inr ⟨y, List.mem_cons_of_mem x hy, hlo⟩
    · rcases hhi with hhi | ⟨y, hy, hhi⟩
      · rw [hhi]
        exact (byteMax_eq p.2 (alphaByte x)).imp id fun h => ⟨x, List.mem_cons_self, h.symm⟩
      · exact .inr ⟨y, List.mem_cons_of_mem x hy, hhi⟩

theorem mem_take_iff (buf : Vector Word 256) {n : Nat} (hn : n ≤ 256) (x : Word) :
    x ∈ buf.toList.take n ↔ ∃ k < n, buf32At buf k = x := by
  simp only [List.mem_take_iff_getElem, Vector.length_toList, Nat.min_eq_left hn, Vector.getElem_toList]
  constructor
  · rintro ⟨k, hk, rfl⟩
    exact ⟨k, hk, by simp [buf32At, Nat.mod_eq_of_lt (hk.trans_le hn)]⟩
  · rintro ⟨k, hk, rfl⟩
    exact ⟨k, hk, by simp [buf32At, Nat.mod_eq_of_lt (hk.trans_le hn)]⟩

section
variable (buf : Vector Word 256) {n : Nat} (hn : n ≤ 256)
include hn

theorem scanAlpha_bounds {k : Nat} (hk : k < n) :
    (scanAlpha buf n).1.toNat ≤ (alphaByte (buf32At buf k)).toNat ∧
    (alphaByte (buf32At buf k)).toNat ≤ (scanAlpha buf n).2.toNat := by
  obtain ⟨-, -, hmem⟩ := foldl_scanStep_bounds (buf.toList.take n) (0xFF, 0x00)
  exact hmem _ ((mem_take_iff buf hn _).mpr ⟨k, hk, rfl⟩)

/-- SCAN begins with the widest empty pair, so over at least one entry both of its ends are alpha bytes. -/
theorem scanAlpha_attained (hpos : 0 < n) :
    (∃ k < n, alphaByte (buf32At buf k) = (scanAlpha buf n).1) ∧
    ∃ k < n, alphaByte (buf32At buf k) = (scanAlpha buf n).2 := by
  obtain ⟨hlo, hhi⟩ := foldl_scanStep_attained (buf.toList.take n) (0xFF, 0x00)
  obtain ⟨hfirst_lo, hfirst_hi⟩ := scanAlpha_bounds buf hn hpos
  have hbyte := (alphaByte (buf32At buf 0)).isLt
  have hmem {b : Byte} : (∃ x ∈ buf.toList.take n, alphaByte x = b) → ∃ k < n, alphaByte (buf32At buf k) = b := by
    rintro ⟨x, hx, hb⟩
    obtain ⟨k, hk, rfl⟩ := (mem_take_iff buf hn x).mp hx
    exact ⟨k, hk, hb⟩
  constructor
  · rcases hlo with hlo | hlo
    · have hstart : (scanAlpha buf n).1.toNat = 255 := congrArg BitVec.toNat hlo
      exact ⟨0, hpos, BitVec.eq_of_toNat_eq (by omega)⟩
    · exact hmem hlo
  · rcases hhi with hhi | hhi
    · have hstart : (scanAlpha buf n).2.toNat = 0 := congrArg BitVec.toNat hhi
      exact ⟨0, hpos, BitVec.eq_of_toNat_eq (by omega)⟩
    · exact hmem hhi

end

-- R160, R162: the query off the fast path.

theorem pal_of_valid {s : State} (h : AlphaQueryValid s) :
    (fmtOf s.config s.rTex.psm).pal = 16 ∨ (fmtOf s.config s.rTex.psm).pal = 256 := by
  obtain ⟨-, hpath⟩ := h
  rw [Ne, readPath_eq_none_iff, indexWidth_eq_none_iff] at hpath
  omega

/-- The pair a scan of the current buffer gives. -/
def scanned (s : State) : Byte × Byte :=
  scanAlpha s.buf32 (scanCount s.config s.rTex.psm)

/-- The state a query that scans ends in. -/
def afterScan (s : State) : State :=
  (s.setMemo (scanned s).1 (scanned s).2).complete (.alphaRange (scanned s).1 (scanned s).2) []

section
variable {s : State}

theorem exec_alphaMinMax_of_scan (hvalid : AlphaQueryValid s) (hslow : fastAlpha s = false)
    (hstale : s.rAlphaDirty = true) : exec .alphaMinMax s = .next (afterScan s) := by
  obtain ⟨hcurrent, hpath⟩ := hvalid
  simp [exec, execAlphaMinMax, hcurrent, hpath, hslow, hstale, afterScan, scanned]

theorem exec_alphaMinMax_of_memo (hvalid : AlphaQueryValid s) (hslow : fastAlpha s = false)
    (hfresh : s.rAlphaDirty = false) :
    exec .alphaMinMax s = .next (s.complete (.alphaRange s.rAmin s.rAmax) []) := by
  obtain ⟨hcurrent, hpath⟩ := hvalid
  simp [exec, execAlphaMinMax, hcurrent, hpath, hslow, hfresh]

theorem fastAlpha_eq_false (h : ¬ (depthOf s.config s.rTex.cpsm = .d24 ∧ s.rAlpha.aem = false)) :
    fastAlpha s = false := by
  rwa [← fastAlpha_iff, Bool.not_eq_true] at h

/-- A scan writes the memo's pair and its flag, and nothing else. -/
theorem afterScan_frame :
    SameClut s (afterScan s) ∧ SameBuffers s (afterScan s) ∧ SameWriteSnapshot s (afterScan s) ∧
    (afterScan s).wDirty = s.wDirty ∧ SameLc s (afterScan s) ∧ SameReadSnapshot s (afterScan s) ∧
    (afterScan s).rDirty = s.rDirty ∧ SameSurroundings s (afterScan s) := by
  simp [SameClut, SameBuffers, SameWriteSnapshot, SameLc, SameReadSnapshot, SameSurroundings, afterScan]

/-- Off the fast path a query leaves a fresh memo, which is its result, and what the next query's tests look at. -/
theorem exec_alphaMinMax_leaves_memo (hvalid : AlphaQueryValid s) (hslow : fastAlpha s = false) :
    ∃ u, exec .alphaMinMax s = .next u ∧ AlphaQueryValid u ∧ fastAlpha u = false ∧ u.rAlphaDirty = false ∧
      u.result = some { value := .alphaRange u.rAmin u.rAmax, warnings := [] } := by
  cases hmemo : s.rAlphaDirty
  · exact ⟨_, exec_alphaMinMax_of_memo hvalid hslow hmemo, hvalid, hslow, hmemo, rfl⟩
  · exact ⟨_, exec_alphaMinMax_of_scan hvalid hslow hmemo, hvalid, hslow, rfl, rfl⟩

end

/-- Settles O46: the scan covers the palette's 16 or 256 entries, and the memo is all that `setMemo` writes. -/
theorem alphaScanReturnsTheExactRange : Obligations.AlphaScanReturnsTheExactRange := by
  unfold Obligations.AlphaScanReturnsTheExactRange
  intro s hvalid hslow hstale
  have hpal := pal_of_valid hvalid
  have hn : scanCount s.config s.rTex.psm ≤ 256 := by unfold scanCount; omega
  have hpos : 0 < scanCount s.config s.rTex.psm := by unfold scanCount; omega
  obtain ⟨⟨i, hi, hmin⟩, j, hj, hmax⟩ := scanAlpha_attained s.buf32 hn hpos
  exact ⟨_, exec_alphaMinMax_of_scan hvalid (fastAlpha_eq_false hslow) hstale, ⟨rfl, rfl⟩, rfl,
    ⟨fun k hk => scanAlpha_bounds s.buf32 hn hk, ⟨i, hi, congrArg _ hmin⟩, j, hj, congrArg _ hmax⟩,
    afterScan_frame⟩

/-- Settles O47: a query off the fast path leaves a fresh memo that is its result, and the next one returns it. -/
theorem alphaMemoIsReturnedWithoutAScan : Obligations.AlphaMemoIsReturnedWithoutAScan := by
  unfold Obligations.AlphaMemoIsReturnedWithoutAScan
  intro s hvalid hslow
  have hslow := fastAlpha_eq_false hslow
  refine ⟨exec_alphaMinMax_of_memo hvalid hslow, ?_⟩
  obtain ⟨u, hexec, hvalid', hslow', hfresh, hresult⟩ := exec_alphaMinMax_leaves_memo hvalid hslow
  exact ⟨u, _, hexec, exec_alphaMinMax_of_memo hvalid' hslow' hfresh, hresult.symm, rfl, rfl, rfl⟩

end Sys2Proof.Proofs.AlphaScan

namespace Sys2Proof.Proofs.Writers
open Sys2Proof.Machine Sys2Proof.Safety Sys2Proof.Proofs.WriteTracker Sys2Proof.Proofs.WriteCodecs
open Sys2Proof.Proofs.ReadExpand

-- R26, R34, R35: what each command that is not a maintenance command or WRITE_TEST leaves alone.

section
variable {s u : State}

/-- LOAD keeps what WRITE_TEST and WRITE both keep, and its WRITE clears W.dirty and sets R.dirty. -/
theorem load_frame {t : TexCfg} {c : GatherCfg} (h : exec (.load t c) s = .next u) :
    SameBuffers s u ∧ SameReadSnapshot s u ∧ SameMemo s u ∧ SameSurroundings s u ∧
    ((u.wDirty = s.wDirty ∧ u.rDirty = s.rDirty ∧ SameClut s u) ∨ (u.wDirty = false ∧ u.rDirty = true)) := by
  obtain ⟨-, rfl⟩ | ⟨-, rfl⟩ := load_next h
  · simp [SameBuffers, SameReadSnapshot, SameMemo, SameSurroundings, writePalette_fst, writeTest_frame s t c]
  · simp [SameBuffers, SameReadSnapshot, SameMemo, SameSurroundings, SameClut, writeTest_frame s t c]

theorem read_frame {t : TexCfg} {a : AlphaCfg} (h : exec (.read t a) s = .next u) :
    SameClut s u ∧ SameWriteSnapshot s u ∧ u.wDirty = s.wDirty ∧ SameLc s u ∧ SameSurroundings s u ∧
    u.rDirty = false ∧ u.rAmin = s.rAmin ∧ u.rAmax = s.rAmax ∧ (s.rAlphaDirty = true → u.rAlphaDirty = true) := by
  obtain ⟨hhit, rfl⟩ | ⟨-, rfl⟩ := read_next h
  · obtain ⟨hdirty, -, -⟩ := AlphaRange.readDirty_eq_false_iff.mp hhit
    simp [SameClut, SameWriteSnapshot, SameLc, SameSurroundings, hdirty]
  · obtain ⟨-, -, hdirty, hadirty, hamin, hamax, hclut, hsnap, hwrite, hlc, hsur, -⟩ := expanded_frame s t a
    exact ⟨hclut, hsnap, hwrite, hlc, hsur, hdirty, hamin, hamax, fun _ => hadirty⟩

/-- A query writes the memo at most, and leaves its flag clear when it does. -/
theorem alphaMinMax_frame (h : exec .alphaMinMax s = .next u) :
    SameClut s u ∧ SameBuffers s u ∧ SameWriteSnapshot s u ∧ u.wDirty = s.wDirty ∧ SameLc s u ∧
    SameReadSnapshot s u ∧ u.rDirty = s.rDirty ∧ SameSurroundings s u ∧
    (u.rAlphaDirty = true → s.rAlphaDirty = true) := by
  obtain ⟨-, ⟨-, rfl⟩ | ⟨-, -, rfl⟩ | ⟨-, -, rfl⟩⟩ := alphaMinMax_next h <;>
    simp [SameClut, SameBuffers, SameWriteSnapshot, SameLc, SameReadSnapshot, SameSurroundings]

theorem maintenance_frame {i : Instr}
    (hi : i = .invalidate ∨ (∃ b, i = .invalidateBlock b) ∨ ∃ a b, i = .invalidateRange a b)
    (h : exec i s = .next u) :
    SameClut s u ∧ SameBuffers s u ∧ SameWriteSnapshot s u ∧ SameLc s u ∧ SameReadTracker s u ∧
    SameSurroundings s u ∧ (s.wDirty = true → u.wDirty = true) := by
  obtain ⟨hit, rfl⟩ := maintenance_next hi h
  obtain ⟨-, hclut, hbuf, hwsnap, hlc, hread, hsur⟩ := afterInvalidation_frame hit s
  exact ⟨hclut, hbuf, hwsnap, hlc, hread, hsur, fun hdirty => by simp [afterInvalidation_wDirty, hdirty]⟩

end

/-- Settles O49: the frame of each command, and what it does with the flags it owns. -/
theorem stateElementsHaveOnlyTheirWriters : Obligations.StateElementsHaveOnlyTheirWriters := by
  unfold Obligations.StateElementsHaveOnlyTheirWriters
  intro i s u h
  cases i with
  | writeTest t c =>
    obtain rfl : u = afterTest s t c := writeTest_next h
    obtain ⟨hwrite, hclut, hbuf, ⟨hsnap, hdirty, hflag, hamin, hamax⟩, hsur⟩ := afterTest_frame s t c
    simp [hwrite, hclut, hbuf, hsnap, hdirty, hflag, hamin, hamax, hsur]
  | write t c =>
    obtain rfl : u = afterWrite s t c := write_next h
    obtain ⟨-, -, hwrite, hdirty⟩ := afterWrite_commits s t c
    obtain ⟨hlc, hsnap, ⟨hflag, hamin, hamax⟩, hbuf, hsur⟩ := afterWrite_frame s t c
    simp [hwrite, hdirty, hlc, hsnap, hflag, hamin, hamax, hbuf, hsur]
  | load t c =>
    obtain ⟨hbuf, hsnap, ⟨hflag, hamin, hamax⟩, hsur, ⟨hwrite, hdirty, -⟩ | ⟨hwrite, hdirty⟩⟩ := load_frame h
    · simp [hbuf, hsnap, hflag, hamin, hamax, hsur, hwrite, hdirty]
    · simp [hbuf, hsnap, hflag, hamin, hamax, hsur, hwrite, hdirty]
  | read t a =>
    obtain ⟨hclut, hsnap, hwrite, hlc, hsur, hdirty, hamin, hamax, hflag⟩ := read_frame h
    simpa [hclut, hsnap, hwrite, hlc, hsur, hdirty, hamin, hamax] using hflag
  | alphaMinMax =>
    obtain ⟨hclut, hbuf, hwsnap, hwrite, hlc, hsnap, hdirty, hsur, hflag⟩ := alphaMinMax_frame h
    simpa [hclut, hbuf, hwsnap, hwrite, hlc, hsnap, hdirty, hsur] using hflag
  | invalidate =>
    obtain ⟨hclut, hbuf, hwsnap, hlc, ⟨hsnap, hdirty, hflag, hamin, hamax⟩, hsur, hwrite⟩ :=
      maintenance_frame (.inl rfl) h
    simpa [hclut, hbuf, hwsnap, hlc, hsnap, hdirty, hflag, hamin, hamax, hsur] using hwrite
  | invalidateBlock block =>
    obtain ⟨hclut, hbuf, hwsnap, hlc, ⟨hsnap, hdirty, hflag, hamin, hamax⟩, hsur, hwrite⟩ :=
      maintenance_frame (.inr (.inl ⟨block, rfl⟩)) h
    simpa [hclut, hbuf, hwsnap, hlc, hsnap, hdirty, hflag, hamin, hamax, hsur] using hwrite
  | invalidateRange first last =>
    obtain ⟨hclut, hbuf, hwsnap, hlc, ⟨hsnap, hdirty, hflag, hamin, hamax⟩, hsur, hwrite⟩ :=
      maintenance_frame (.inr (.inr ⟨first, last, rfl⟩)) h
    simpa [hclut, hbuf, hwsnap, hlc, hsnap, hdirty, hflag, hamin, hamax, hsur] using hwrite

end Sys2Proof.Proofs.Writers

namespace Sys2Proof.Proofs.Invariants
open Sys2Proof.Machine Sys2Proof.Safety Sys2Proof.Proofs.Selection Sys2Proof.Proofs.WriteTracker
open Sys2Proof.Proofs.WriteCodecs Sys2Proof.Proofs.ReadExpand Sys2Proof.Proofs.Writers

-- R34: what the commands other than READ and ALPHA_MINMAX do to the read side.

/-- They keep the buffers, the Read Snapshot and the memo, and where they change CLUT they set R.dirty. -/
theorem exec_keepsReadSide {i : Instr} {s u : State} (hread : ∀ t a, i ≠ .read t a) (halpha : i ≠ .alphaMinMax)
    (h : exec i s = .next u) :
    SameBuffers s u ∧ SameReadSnapshot s u ∧ SameMemo s u ∧
    ((u.rDirty = s.rDirty ∧ SameClut s u) ∨ u.rDirty = true) := by
  have hmaintenance
      (hi : i = .invalidate ∨ (∃ b, i = .invalidateBlock b) ∨ ∃ a b, i = .invalidateRange a b) :
      SameBuffers s u ∧ SameReadSnapshot s u ∧ SameMemo s u ∧
      ((u.rDirty = s.rDirty ∧ SameClut s u) ∨ u.rDirty = true) := by
    obtain ⟨hclut, hbuf, -, -, ⟨hsnap, hdirty, hmemo⟩, -⟩ := maintenance_frame hi h
    exact ⟨hbuf, hsnap, hmemo, .inl ⟨hdirty, hclut⟩⟩
  cases i with
  | writeTest t c =>
    obtain rfl : u = afterTest s t c := writeTest_next h
    obtain ⟨-, hclut, hbuf, ⟨hsnap, hdirty, hmemo⟩, -⟩ := afterTest_frame s t c
    exact ⟨hbuf, hsnap, hmemo, .inl ⟨hdirty, hclut⟩⟩
  | write t c =>
    obtain rfl : u = afterWrite s t c := write_next h
    obtain ⟨-, -, -, hdirty⟩ := afterWrite_commits s t c
    obtain ⟨-, hsnap, hmemo, hbuf, -⟩ := afterWrite_frame s t c
    exact ⟨hbuf, hsnap, hmemo, .inr hdirty⟩
  | load t c =>
    obtain ⟨hbuf, hsnap, hmemo, -, hcase⟩ := load_frame h
    exact ⟨hbuf, hsnap, hmemo, hcase.imp And.right And.right⟩
  | read t a => exact absurd rfl (hread t a)
  | alphaMinMax => exact absurd rfl halpha
  | invalidate => exact hmaintenance (.inl rfl)
  | invalidateBlock block => exact hmaintenance (.inr (.inl ⟨block, rfl⟩))
  | invalidateRange first last => exact hmaintenance (.inr (.inr ⟨first, last, rfl⟩))

theorem exec_surroundings {i : Instr} {s u : State} (h : exec i s = .next u) : SameSurroundings s u := by
  obtain ⟨-, -, -, -, -, -, -, -, -, hsur⟩ := stateElementsHaveOnlyTheirWriters i s u h
  exact hsur

-- R163 (d): the memo.

theorem memoDescribesBuffer_congr {s u : State} (hbuf : SameBuffers s u) (hmemo : SameMemo s u)
    (h : MemoDescribesBuffer s) : MemoDescribesBuffer u := by
  obtain ⟨hflag, hamin, hamax⟩ := hmemo
  unfold MemoDescribesBuffer
  rwa [hflag, hamin, hamax, hbuf.1]

/-- A READ miss makes the memo stale, and a scan fills it from the buffer of the day. -/
theorem exec_keepsMemo {i : Instr} {s u : State} (h : exec i s = .next u) (hmemo : MemoDescribesBuffer s) :
    MemoDescribesBuffer u := by
  by_cases hread : ∃ t a, i = .read t a
  · obtain ⟨t, a, rfl⟩ := hread
    obtain ⟨-, rfl⟩ | ⟨-, rfl⟩ := read_next h
    · exact memoDescribesBuffer_congr ⟨rfl, rfl⟩ ⟨rfl, rfl, rfl⟩ hmemo
    · obtain ⟨-, -, -, hstale, -⟩ := expanded_frame s t a
      exact fun hfresh => absurd (hstale.symm.trans hfresh) (by decide)
  by_cases halpha : i = .alphaMinMax
  · subst halpha
    obtain ⟨hvalid, ⟨-, rfl⟩ | ⟨-, -, rfl⟩ | ⟨-, -, rfl⟩⟩ := alphaMinMax_next h
    · exact memoDescribesBuffer_congr ⟨rfl, rfl⟩ ⟨rfl, rfl, rfl⟩ hmemo
    · intro _
      rcases AlphaScan.pal_of_valid hvalid with hpal | hpal
      · exact .inl (by simp [scanCount, hpal])
      · exact .inr (by simp [scanCount, hpal])
    · exact memoDescribesBuffer_congr ⟨rfl, rfl⟩ ⟨rfl, rfl, rfl⟩ hmemo
  · obtain ⟨hbuf, -, hmemo', -⟩ := exec_keepsReadSide (fun t a hi => hread ⟨t, a, hi⟩) halpha h
    exact memoDescribesBuffer_congr hbuf hmemo' hmemo

/-- Taking the event first changes the queue, of which the invariant does not speak. -/
theorem exec_keepsInv {i : Instr} {s u : State} (h : exec i s = .next u) (hinv : Inv s) : Inv u := by
  obtain ⟨⟨hrun, hwf⟩, hraster, hmemo⟩ := hinv
  obtain ⟨-, -, hcfg, -, hfaulted, hrefused⟩ := exec_surroundings h
  refine ⟨⟨?_, by rwa [hcfg]⟩, by rwa [RasterMemory.exec_raster h], exec_keepsMemo h hmemo⟩
  simpa [State.runOver, hfaulted, hrefused] using hrun

/-- Settles O52: a command keeps the marks, the parameters and the image, and the memo as above; an event of the
raster image keeps its canonical form and nothing else is in its reach. -/
theorem everyStepKeepsTheInvariant : Obligations.EveryStepKeepsTheInvariant := by
  unfold Obligations.EveryStepKeepsTheInvariant
  intro s u hinv h
  obtain ⟨-, ⟨-, rfl⟩ | ⟨w, rest, i, -, -, hexec⟩ | ⟨space, address, value, rest, -, rfl⟩ |
    ⟨key, element, rest, -, rfl⟩⟩ := step_cases s u h
  · exact hinv
  · exact exec_keepsInv hexec hinv
  · obtain ⟨hlive, hraster, hmemo⟩ := hinv
    exact ⟨hlive, s.raster.writeByte_wf hraster space address value, hmemo⟩
  · obtain ⟨hlive, hraster, hmemo⟩ := hinv
    exact ⟨hlive, s.raster.writeResolver_wf hraster key element, hmemo⟩

-- R34, R146 (d): the expansion.

/-- An entry of a fresh expansion turns on CLUT, CSA and, for the 16-bit paths, the alpha bundle. -/
theorem freshEntry_congr {path : ExpandPath} {s u : State} (hclut : u.clut = s.clut)
    (hbuf : path = .none → u.buf32 = s.buf32) (hcsa : u.rTex.csa = s.rTex.csa)
    (halpha : path = .e16I8 ∨ path = .e16I4 → u.rAlpha = s.rAlpha) (k : Nat) :
    freshEntry path u k = freshEntry path s k := by
  cases path <;> simp_all [freshEntry]

theorem expansionIsFresh_congr {s u : State} (hclut : SameClut s u) (hbuf : SameBuffers s u)
    (hsnap : SameReadSnapshot s u) (hdirty : u.rDirty = s.rDirty) (hcfg : u.config = s.config)
    (h : ExpansionIsFresh s) : ExpansionIsFresh u := by
  obtain ⟨htex, halpha⟩ := hsnap
  obtain ⟨hbuf32, hbuf64⟩ := hbuf
  have hentry (k : Nat) : freshEntry (readPath s.config s.rTex) u k = freshEntry (readPath s.config s.rTex) s k :=
    freshEntry_congr hclut (fun _ => hbuf32) (by rw [htex]) (fun _ => halpha) k
  unfold ExpansionIsFresh at h ⊢
  simpa only [hdirty, hcfg, htex, hbuf32, hbuf64, hentry] using h

theorem alphaCfg_eq_of_not_alphaDiffers {cfg : Config} {d : Depth} {a b : AlphaCfg} (hdepth : Is16 d)
    (hcompared : AlphaCompared cfg d) (h : alphaDiffers cfg d a b = false) : a = b := by
  have hfields : a.ta0 = b.ta0 ∧ a.ta1 = b.ta1 ∧ a.aem = b.aem := by
    rcases hdepth with rfl | rfl
    · simpa [alphaDiffers, and_assoc] using h
    · simpa [alphaDiffers, hcompared rfl, and_assoc] using h
  obtain ⟨hta0, hta1, haem⟩ := hfields
  cases a
  cases b
  exact (AlphaCfg.mk.injEq ..).mpr ⟨hta0, haem, hta1⟩

theorem is16_of_e16 {cfg : Config} {t : TexCfg} (h : readPath cfg t = .e16I8 ∨ readPath cfg t = .e16I4) :
    Is16 (depthOf cfg t.cpsm) := by
  unfold readPath at h
  rcases depth_cases (depthOf cfg t.cpsm) with hdepth | hdepth | hdepth
  · rcases hdepth with hd | hd <;> cases hiw : indexWidth cfg t.psm <;> simp [hd, hiw, expandPath] at h
  · exact hdepth
  · simp [hdepth, expandPath] at h

theorem pathCount_readPath {cfg : Config} {t : TexCfg} (h : readPath cfg t ≠ .none) :
    pathCount (readPath cfg t) = (fmtOf cfg t.psm).pal := by
  unfold readPath at h ⊢
  cases hiw : indexWidth cfg t.psm with
  | i8 =>
    rw [(indexWidth_eq_i8_iff cfg t.psm).mp hiw]
    cases hd : depthOf cfg t.cpsm <;> simp_all [expandPath, pathCount]
  | i4 =>
    rw [(indexWidth_eq_i4_iff cfg t.psm).mp hiw]
    cases hd : depthOf cfg t.cpsm <;> simp_all [expandPath, pathCount]
  | none => simp [hiw, expandPath_eq_none_iff] at h

/-- A miss makes a fresh expansion, whatever was there. -/
theorem afterMiss_isFresh (s : State) (t : TexCfg) (a : AlphaCfg) : ExpansionIsFresh (afterMiss s t a) := by
  obtain ⟨htex, halpha, -, -, -, -, hclut, -, -, -, ⟨-, -, hcfg, -⟩, -⟩ := expanded_frame s t a
  have htex : (afterMiss s t a).rTex = t := htex
  have hcfg : (afterMiss s t a).config = s.config := hcfg
  intro _ _ _
  rw [htex, hcfg]
  refine ⟨fun k hk hpal => ?_, fun hi4 k hk => afterMiss_buf64_of_i4 s t a hi4 hk⟩
  by_cases hpath : readPath s.config t = .none
  · rw [hpath]
    rfl
  · rw [afterMiss_buf32_of_lt s t a rfl hk (by rwa [pathCount_readPath hpath])]
    have hentry := freshEntry_congr (path := readPath s.config t) (s := s.beginExpand t a) (u := afterMiss s t a)
    exact (hentry hclut (fun hnone => absurd hnone hpath) (congrArg _ htex) (fun _ => halpha) k).symm

theorem eq_of_not_texDiffers {cfg : Config} {t u : TexCfg} (h : texDiffers cfg t u = false) :
    t.csa = u.csa ∧ t.cpsm = u.cpsm ∧ (fmtOf cfg t.psm).bpp = (fmtOf cfg u.psm).bpp := by
  simp only [texDiffers, Bool.or_eq_false_iff, bne_eq_false_iff_eq] at h
  obtain ⟨⟨⟨⟨hcsa, -⟩, hcpsm⟩, -⟩, hbpp⟩ := h
  exact ⟨hcsa, hcpsm, hbpp⟩

/-- A hit's format has the bit depth of the snapshot's, so the same palette; and its alpha fields, where the path
reads them, are the snapshot's. -/
theorem afterHit_isFresh {s : State} {t : TexCfg} {a : AlphaCfg} (hhit : readDirty s t a = false)
    (h : ExpansionIsFresh s) : ExpansionIsFresh (afterHit s t a) := by
  obtain ⟨hdirty, htex, halpha⟩ := AlphaRange.readDirty_eq_false_iff.mp hhit
  obtain ⟨hcsa, hcpsm, hbpp⟩ := eq_of_not_texDiffers htex
  intro _ hfixes hcompared
  change BppFixesPalette s.config t.psm at hfixes
  change AlphaCompared s.config (depthOf s.config t.cpsm) at hcompared
  have hpal : (fmtOf s.config s.rTex.psm).pal = (fmtOf s.config t.psm).pal := hfixes _ hbpp.symm
  have hpath : readPath s.config t = readPath s.config s.rTex := by
    simp only [readPath, indexWidth, hcpsm, hpal]
  have hfixes' : BppFixesPalette s.config s.rTex.psm :=
    fun x hx => (hfixes x (hx.trans hbpp.symm)).trans hpal.symm
  obtain ⟨hbuf32, hbuf64⟩ := h hdirty hfixes' (hcpsm ▸ hcompared)
  have hentry (k : Nat) : freshEntry (readPath s.config t) (afterHit s t a) k = freshEntry (readPath s.config t) s k :=
    freshEntry_congr (s := s) (u := afterHit s t a) rfl (fun _ => rfl) hcsa
      (fun h16 => alphaCfg_eq_of_not_alphaDiffers (is16_of_e16 h16) hcompared halpha) k
  refine ⟨fun k hk hlt => ?_, fun hi4 => hbuf64 (hpath ▸ hi4)⟩
  calc buf32At s.buf32 k
      _ = freshEntry (readPath s.config s.rTex) s k := hbuf32 k hk (hpal ▸ hlt)
      _ = freshEntry (readPath s.config t) (afterHit s t a) k := by rw [hentry, hpath]

theorem exec_keepsExpansion {i : Instr} {s u : State} (h : exec i s = .next u) (hfresh : ExpansionIsFresh s) :
    ExpansionIsFresh u := by
  by_cases hread : ∃ t a, i = .read t a
  · obtain ⟨t, a, rfl⟩ := hread
    obtain ⟨hhit, rfl⟩ | ⟨-, rfl⟩ := read_next h
    · exact afterHit_isFresh hhit hfresh
    · exact afterMiss_isFresh s t a
  obtain ⟨-, -, hcfg, -⟩ := exec_surroundings h
  by_cases halpha : i = .alphaMinMax
  · subst halpha
    obtain ⟨hclut, hbuf, -, -, -, hsnap, hdirty, -⟩ := alphaMinMax_frame h
    exact expansionIsFresh_congr hclut hbuf hsnap hdirty hcfg hfresh
  · obtain ⟨hbuf, hsnap, -, ⟨hdirty, hclut⟩ | hdirty⟩ :=
      exec_keepsReadSide (fun t a hi => hread ⟨t, a, hi⟩) halpha h
    · exact expansionIsFresh_congr hclut hbuf hsnap hdirty hcfg hfresh
    · exact fun hcurrent => absurd (hdirty.symm.trans hcurrent) (by decide)

/-- Settles O54: a READ hit keeps the expansion for the new snapshot, a READ miss makes one, and every other command
keeps what it rests on or sets R.dirty. -/
theorem everyStepKeepsTheExpansionFresh : Obligations.EveryStepKeepsTheExpansionFresh := by
  unfold Obligations.EveryStepKeepsTheExpansionFresh
  intro s u hfresh h
  obtain ⟨-, ⟨-, rfl⟩ | ⟨w, rest, i, -, -, hexec⟩ | ⟨space, address, value, rest, -, rfl⟩ |
    ⟨key, element, rest, -, rfl⟩⟩ := step_cases s u h
  · exact hfresh
  · exact exec_keepsExpansion hexec (expansionIsFresh_congr rfl ⟨rfl, rfl⟩ ⟨rfl, rfl⟩ rfl rfl hfresh)
  · exact expansionIsFresh_congr rfl ⟨rfl, rfl⟩ ⟨rfl, rfl⟩ rfl rfl hfresh
  · exact expansionIsFresh_congr rfl ⟨rfl, rfl⟩ ⟨rfl, rfl⟩ rfl rfl hfresh

-- R191: reset.

/-- Settles O53: at reset no mark is set, the memo is stale and R.dirty is set, whatever the open contents. -/
theorem resetMeetsTheInvariant : Obligations.ResetMeetsTheInvariant := by
  unfold Obligations.ResetMeetsTheInvariant
  have hreset (cfg : Config) (init : Init) (r : Raster) (p : List HostEvent) (hcfg : cfg.wellFormed = true)
      (hr : r.wf) : Inv (State.resetWith cfg init r p) :=
    ⟨⟨rfl, hcfg⟩, hr, fun hfresh => nomatch hfresh⟩
  refine ⟨hreset, hreset _ _ _ _ (by decide) (by decide), fun cfg init r p hcurrent => nomatch hcurrent⟩

/-- Settles O51: the flags at reset make the first test report, the first READ miss and the query fault. -/
theorem resetLeavesTheTrackersDirty : Obligations.ResetLeavesTheTrackersDirty := by
  unfold Obligations.ResetLeavesTheTrackersDirty
  intro cfg init r p s
  refine ⟨rfl, rfl, rfl, rfl, rfl, rfl, rfl, rfl, rfl, rfl, rfl, fun t c hpal hcld => ?_, fun t a => ?_, rfl⟩
  · have hdirty : writeDirty s t c = true := rfl
    have hruns : TestRuns s t := (testRuns_iff s t).mpr ⟨hpal, by tauto⟩
    have hdone := afterTest_completed s t c
    rw [writeTest_of_runs c hruns, hdirty] at hdone
    exact ⟨_, exec_writeTest s t c, hdone⟩
  · obtain ⟨u, hexec, hdone, -⟩ := readMissRecordsTheSnapshot t a s rfl
    exact ⟨u, hexec, hdone⟩

end Sys2Proof.Proofs.Invariants

namespace Sys2Proof.Proofs.CommandIndex
open Sys2Proof.Machine Sys2Proof.Safety Sys2Proof.Proofs.RasterMemory

/-- The state with another command index. -/
def withIndex (m : Nat) (s : State) : State :=
  { s with cmdIndex := m }

-- R199: every command runs alike from another index, and completes it by one.

section
variable (m : Nat) (s : State)

theorem complete_withIndex (value : ResultValue) (warnings : List Warning) :
    (withIndex m s).complete value warnings = withIndex (m + 1) (s.complete value warnings) := rfl

theorem writeTest_withIndex (t : TexCfg) (c : GatherCfg) :
    writeTest (withIndex m s) t c = Prod.map id (withIndex m) (writeTest s t c) := by
  have hdirty : writeDirty (withIndex m s) t c = writeDirty s t c := rfl
  have hrecord : WriteTracker.recordBase (withIndex m s) t = withIndex m (WriteTracker.recordBase s t) := by
    unfold WriteTracker.recordBase
    cases loadRule t.cld with
    | never => rfl
    | always => rfl
    | record slot => cases slot <;> rfl
    | ifDiffers slot => cases slot <;> rfl
  by_cases hruns : WriteTracker.TestRuns s t
  · rw [WriteTracker.writeTest_of_runs c hruns, WriteTracker.writeTest_of_runs (s := withIndex m s) c hruns, hdirty,
      hrecord]
    cases writeDirty s t c <;> rfl
  · rw [WriteTracker.writeTest_of_not_runs c hruns, WriteTracker.writeTest_of_not_runs (s := withIndex m s) c hruns]
    rfl

theorem writePalette_withIndex (t : TexCfg) (c : GatherCfg) :
    writePalette (withIndex m s) t c = Prod.map (withIndex m) id (writePalette s t c) := by
  have hroutine : runRoutine (writeRoutine (withIndex m s).config t) (withIndex m s).config (withIndex m s).raster
      (withIndex m s).clut t c = runRoutine (writeRoutine s.config t) s.config s.raster s.clut t c := rfl
  unfold writePalette
  rw [hroutine]
  cases runRoutine (writeRoutine s.config t) s.config s.raster s.clut t c <;> rfl

theorem afterInvalidation_withIndex (hit : Bool) :
    WriteTracker.afterInvalidation hit (withIndex m s) = withIndex (m + 1) (WriteTracker.afterInvalidation hit s) := by
  cases hit <;> rfl

theorem execLoad_withIndex (t : TexCfg) (c : GatherCfg) :
    execLoad t c (withIndex m s) = mapNext (withIndex (m + 1)) (execLoad t c s) := by
  simp only [execLoad, writeTest_withIndex, writePalette_withIndex, Prod.map_fst, Prod.map_snd, id_eq,
    complete_withIndex]
  split <;> rfl

theorem execRead_withIndex (t : TexCfg) (a : AlphaCfg) :
    execRead t a (withIndex m s) = mapNext (withIndex (m + 1)) (execRead t a s) := by
  have hpath (path : ExpandPath) :
      runPath path ((withIndex m s).beginExpand t a) t a = withIndex m (runPath path (s.beginExpand t a) t a) := by
    cases path <;> rfl
  have hdirty : readDirty (withIndex m s) t a = readDirty s t a := rfl
  simp only [execRead, hdirty, hpath]
  split <;> rfl

theorem exec_withIndex (i : Instr) : exec i (withIndex m s) = mapNext (withIndex (m + 1)) (exec i s) := by
  cases i with
  | writeTest t c => simp only [exec, execWriteTest, writeTest_withIndex]; rfl
  | write t c => simp only [exec, execWrite, writePalette_withIndex]; rfl
  | load t c => exact execLoad_withIndex m s t c
  | read t a => exact execRead_withIndex m s t a
  | alphaMinMax => simp only [exec, execAlphaMinMax, apply_ite (mapNext _)]; rfl
  | invalidate => rfl
  | invalidateBlock block =>
    exact congrArg Host.Outcome.next (afterInvalidation_withIndex m s (sameGroup block s.wTex.cbp))
  | invalidateRange first last =>
    exact congrArg Host.Outcome.next
      (afterInvalidation_withIndex m s (rangeMeets first last s.wTex.cbp (footprint s.config s.wTex)))

end

theorem exec_cmdIndex {i : Instr} {s u : State} (h : exec i s = .next u) : u.cmdIndex = s.cmdIndex + 1 := by
  cases i with
  | writeTest t c => simp [writeTest_next h, writeTest_frame s t c]
  | write t c => simp [write_next h, writePalette_fst]
  | load t c => obtain ⟨-, rfl⟩ | ⟨-, rfl⟩ := load_next h <;> simp [writePalette_fst, writeTest_frame s t c]
  | read t a =>
    obtain ⟨-, rfl⟩ | ⟨-, rfl⟩ := read_next h
    · rfl
    · obtain ⟨x, y, hpath⟩ := runPath_eq (readPath s.config t) (s.beginExpand t a) t a
      simp [hpath]
  | alphaMinMax => obtain ⟨-, ⟨-, rfl⟩ | ⟨-, -, rfl⟩ | ⟨-, -, rfl⟩⟩ := alphaMinMax_next h <;> rfl
  | invalidate => simp [invalidate_next h]
  | invalidateBlock block => rw [invalidateBlock_next h]; split <;> rfl
  | invalidateRange first last => rw [invalidateRange_next h]; split <;> rfl

/-- Settles O10: the index of a next state is one more, and from another index the command does the same with it. -/
theorem commandIndexCountsAndIsNotRead : Obligations.CommandIndexCountsAndIsNotRead := by
  unfold Obligations.CommandIndexCountsAndIsNotRead
  intro i s m
  have hcomm := exec_withIndex m s i
  exact ⟨fun u h => ⟨exec_cmdIndex h, hcomm.trans (congrArg _ h)⟩, fun f h => hcomm.trans (congrArg _ h)⟩

end Sys2Proof.Proofs.CommandIndex

namespace Sys2Proof.Proofs.Observability
open Sys2Proof.Machine Sys2Proof.Safety Sys2Proof.Proofs.WriteTracker

-- R33: the relation, field by field, and the operations that keep states related.

/-- `SameButUnobservable` with a name for each of its parts. -/
structure Related (s t : State) : Prop where
  clut : t.clut = s.clut
  buf32 : t.buf32 = s.buf32
  buf64 : t.buf64 = s.buf64
  lc0 : t.lc0 = s.lc0
  lc1 : t.lc1 = s.lc1
  wDirty : t.wDirty = s.wDirty
  wSnapshot : s.wDirty = false → SameWriteSnapshot s t
  rDirty : t.rDirty = s.rDirty
  rSnapshot : s.rDirty = false → SameReadSnapshot s t
  rAlphaDirty : t.rAlphaDirty = s.rAlphaDirty
  memo : s.rAlphaDirty = false → t.rAmin = s.rAmin ∧ t.rAmax = s.rAmax
  raster : t.raster = s.raster
  config : t.config = s.config
  pending : t.pending = s.pending
  faulted : t.faulted = s.faulted
  refused : t.refused = s.refused
  cmdIndex : t.cmdIndex = s.cmdIndex
  result : t.result = s.result

theorem related_iff (s t : State) : Related s t ↔ SameButUnobservable s t :=
  ⟨fun h => ⟨h.clut, ⟨h.buf32, h.buf64⟩, ⟨h.lc0, h.lc1⟩, h.wDirty, h.wSnapshot, h.rDirty, h.rSnapshot, h.rAlphaDirty,
    h.memo, h.raster, h.config, h.pending, h.faulted, h.refused, h.cmdIndex, h.result⟩,
   fun ⟨hclut, ⟨hbuf32, hbuf64⟩, ⟨hlc0, hlc1⟩, hw, hwsnap, hr, hrsnap, ha, hmemo, hraster, hcfg, hpend, hf, hq, hidx,
      hres⟩ =>
    ⟨hclut, hbuf32, hbuf64, hlc0, hlc1, hw, hwsnap, hr, hrsnap, ha, hmemo, hraster, hcfg, hpend, hf, hq, hidx, hres⟩⟩

section
variable {s t : State} (h : Related s t)
include h

theorem readLc_eq (slot : LcSlot) : t.readLc slot = s.readLc slot := by
  cases slot
  · exact h.lc0
  · exact h.lc1

/-- The write dirty test does not look at the snapshot while W.dirty is set. -/
theorem writeDirty_eq (x : TexCfg) (c : GatherCfg) : writeDirty t x c = writeDirty s x c := by
  cases hw : s.wDirty
  · obtain ⟨htex, hgather⟩ := h.wSnapshot hw
    simp [writeDirty, h.wDirty, htex, hgather, h.config]
  · simp [writeDirty, h.wDirty, hw]

/-- The read dirty test does not look at the snapshot while R.dirty is set. -/
theorem readDirty_eq (x : TexCfg) (a : AlphaCfg) : readDirty t x a = readDirty s x a := by
  cases hr : s.rDirty
  · obtain ⟨htex, halpha⟩ := h.rSnapshot hr
    simp [readDirty, h.rDirty, htex, halpha, h.config]
  · simp [readDirty, h.rDirty, hr]

theorem complete_related (value : ResultValue) (warnings : List Warning) :
    Related (s.complete value warnings) (t.complete value warnings) :=
  { h with cmdIndex := congrArg (· + 1) h.cmdIndex, result := rfl }

theorem takeEvent_related (rest : List HostEvent) : Related (s.takeEvent rest) (t.takeEvent rest) :=
  { h with pending := rfl }

theorem setRaster_related (r : Raster) : Related (s.setRaster r) (t.setRaster r) :=
  { h with raster := rfl }

theorem writeLc_related (slot : LcSlot) (v : BlockNum) : Related (s.writeLc slot v) (t.writeLc slot v) := by
  cases slot
  · exact { h with lc0 := rfl }
  · exact { h with lc1 := rfl }

theorem refreshWrite_related (x : TexCfg) (c : GatherCfg) : Related (s.refreshWrite x c) (t.refreshWrite x c) :=
  { h with wSnapshot := fun _ => ⟨rfl, rfl⟩ }

/-- A WRITE makes the Read Snapshot unobservable. -/
theorem commitWrite_related (x : TexCfg) (c : GatherCfg) (clut : Vector Half 512) :
    Related ((s.commitWrite x c).setClut clut) ((t.commitWrite x c).setClut clut) :=
  { h with clut := rfl, wDirty := rfl, wSnapshot := fun _ => ⟨rfl, rfl⟩, rDirty := rfl, rSnapshot := nofun }

theorem markWriteDirty_related : Related s.markWriteDirty t.markWriteDirty :=
  { h with wDirty := rfl, wSnapshot := nofun }

theorem refreshRead_related (x : TexCfg) (a : AlphaCfg) : Related (s.refreshRead x a) (t.refreshRead x a) :=
  { h with rSnapshot := fun _ => ⟨rfl, rfl⟩ }

/-- A miss makes the memo unobservable. -/
theorem beginExpand_related (x : TexCfg) (a : AlphaCfg) : Related (s.beginExpand x a) (t.beginExpand x a) :=
  { h with rDirty := rfl, rSnapshot := fun _ => ⟨rfl, rfl⟩, rAlphaDirty := rfl, memo := nofun }

theorem setBuffers_related (x : Vector Word 256) (y : Vector DWord 256) :
    Related (s.setBuffers x y) (t.setBuffers x y) :=
  { h with buf32 := rfl, buf64 := rfl }

theorem setMemo_related (lo hi : Byte) : Related (s.setMemo lo hi) (t.setMemo lo hi) :=
  { h with rAlphaDirty := rfl, memo := fun _ => ⟨rfl, rfl⟩ }

theorem runPath_related (path : ExpandPath) (x : TexCfg) (a : AlphaCfg) :
    Related (runPath path s x a) (runPath path t x a) := by
  cases path <;> simp only [runPath, h.clut, h.buf32, h.buf64]
  case none => exact h
  all_goals exact setBuffers_related h _ _

-- R33, per command: related states answer alike, and what they end in is related.

theorem testRuns_iff_of_related (x : TexCfg) : TestRuns t x ↔ TestRuns s x := by
  simp only [TestRuns, h.config, readLc_eq h]

theorem recordBase_related (x : TexCfg) :
    Related (recordBase s x) (recordBase t x) := by
  unfold recordBase
  cases loadRule x.cld with
  | never => exact h
  | always => exact h
  | record slot => exact writeLc_related h slot x.cbp
  | ifDiffers slot => exact writeLc_related h slot x.cbp

theorem writeTest_related (x : TexCfg) (c : GatherCfg) :
    (writeTest t x c).1 = (writeTest s x c).1 ∧ Related (writeTest s x c).2 (writeTest t x c).2 := by
  have hiff := testRuns_iff_of_related h x
  by_cases hruns : TestRuns s x
  · rw [writeTest_of_runs c hruns, writeTest_of_runs c (hiff.mpr hruns), writeDirty_eq h]
    refine ⟨rfl, ?_⟩
    cases writeDirty s x c
    · exact refreshWrite_related (recordBase_related h x) x c
    · exact recordBase_related h x
  · rw [writeTest_of_not_runs c hruns, writeTest_of_not_runs c (mt hiff.mp hruns)]
    exact ⟨rfl, h⟩

theorem writePalette_related (x : TexCfg) (c : GatherCfg) :
    (writePalette t x c).2 = (writePalette s x c).2 ∧
    Related (writePalette s x c).1 (writePalette t x c).1 := by
  rw [writePalette_fst, writePalette_fst, h.config, h.raster, h.clut]
  refine ⟨?_, commitWrite_related h x c _⟩
  simp only [writePalette, h.config, h.raster, h.clut]
  cases runRoutine (writeRoutine s.config x) s.config s.raster s.clut x c <;> rfl

theorem execWriteTest_related (x : TexCfg) (c : GatherCfg) :
    OutcomesAgree Related (execWriteTest x c s) (execWriteTest x c t) := by
  obtain ⟨hanswer, hstate⟩ := writeTest_related h x c
  simp only [execWriteTest, hanswer]
  exact complete_related hstate _ _

theorem execWrite_related (x : TexCfg) (c : GatherCfg) :
    OutcomesAgree Related (execWrite x c s) (execWrite x c t) := by
  obtain ⟨hanswer, hstate⟩ := writePalette_related h x c
  simp only [execWrite, hanswer]
  exact complete_related hstate _ _

theorem execLoad_related (x : TexCfg) (c : GatherCfg) :
    OutcomesAgree Related (execLoad x c s) (execLoad x c t) := by
  obtain ⟨htest, hstate⟩ := writeTest_related h x c
  obtain ⟨hanswer, hwritten⟩ := writePalette_related hstate x c
  simp only [execLoad, htest, hanswer]
  split
  · exact complete_related hwritten _ _
  · exact complete_related hstate _ _

/-- A palette result copies the buffers, which related states share. -/
theorem paletteResult_eq (recomputed : Bool) :
    paletteResult t recomputed = paletteResult s recomputed := by
  simp only [paletteResult, h.buf32, h.buf64]

theorem execRead_related (x : TexCfg) (a : AlphaCfg) :
    OutcomesAgree Related (execRead x a s) (execRead x a t) := by
  have hmiss := runPath_related (beginExpand_related h x a) (readPath s.config x) x a
  have hhit := refreshRead_related h x a
  simp only [execRead, readDirty_eq h, h.config, paletteResult_eq hmiss, paletteResult_eq hhit]
  split
  · exact complete_related hmiss _ _
  · exact complete_related hhit _ _

/-- A query faults while the Read Snapshot is unobservable, and scans while the memo is. -/
theorem execAlphaMinMax_related : OutcomesAgree Related (execAlphaMinMax s) (execAlphaMinMax t) := by
  cases hcurrent : s.rDirty
  · obtain ⟨htex, halpha⟩ := h.rSnapshot hcurrent
    simp only [execAlphaMinMax, fastAlpha, h.rDirty, hcurrent, h.config, htex, halpha, h.rAlphaDirty, h.buf32,
      Bool.false_eq_true, if_false]
    split
    · rfl
    · split
      · exact complete_related h _ _
      · cases hfresh : s.rAlphaDirty
        · obtain ⟨hamin, hamax⟩ := h.memo hfresh
          simp only [hamin, hamax, Bool.false_eq_true, if_false]
          exact complete_related h _ _
        · exact complete_related (setMemo_related h _ _) _ _
  · simp only [execAlphaMinMax, h.rDirty, hcurrent, if_true]
    rfl

/-- A maintenance command reads the Write Snapshot only to set a flag that is set while the snapshot is
unobservable. -/
theorem maintenance_related {hit hit' : Bool} (hhit : s.wDirty = false → hit' = hit) :
    OutcomesAgree Related (.next (afterInvalidation hit s)) (.next (afterInvalidation hit' t)) := by
  refine complete_related (s := if hit then s.markWriteDirty else s) ?_ _ _
  cases hw : s.wDirty
  · rw [hhit hw]
    cases hit
    · exact h
    · exact markWriteDirty_related h
  · have hs : s.markWriteDirty = s := by rw [State.markWriteDirty, ← hw]
    have ht : t.markWriteDirty = t := by rw [State.markWriteDirty, ← hw, ← h.wDirty]
    simpa [hs, ht] using h

theorem exec_related (i : Instr) :
    OutcomesAgree Related (exec i s) (exec i t) := by
  cases i with
  | writeTest x c => exact execWriteTest_related h x c
  | write x c => exact execWrite_related h x c
  | load x c => exact execLoad_related h x c
  | read x a => exact execRead_related h x a
  | alphaMinMax => exact execAlphaMinMax_related h
  | invalidate => exact complete_related (markWriteDirty_related h) _ _
  | invalidateBlock block =>
    exact maintenance_related h fun hclean => by rw [(h.wSnapshot hclean).1]
  | invalidateRange first last =>
    exact maintenance_related h fun hclean => by rw [(h.wSnapshot hclean).1, h.config]

theorem runEvent_related (e : HostEvent) :
    OutcomesAgree Related (runEvent e s) (runEvent e t) := by
  cases e with
  | command w =>
    simp only [runEvent, runCommand]
    split
    · exact exec_related h _
    · rfl
  | foreignCommand w => rfl
  | rasterByte space address value =>
    simp only [runEvent, h.raster]
    exact setRaster_related h _
  | resolverEntry key element =>
    simp only [runEvent, h.raster]
    exact setRaster_related h _

theorem step_related : OutcomesAgree Related (step s) (step t) := by
  have hrun : t.runOver = s.runOver := by simp only [State.runOver, h.faulted, h.refused]
  simp only [step, nextEvent, hrun, h.config, h.pending]
  split
  · rfl
  · split
    · split
      · exact h
      · exact runEvent_related (takeEvent_related h _) _
    · rfl

end

/-- Settles O55: the step lemma above; and at reset all three are unobservable, since their flags are set. -/
theorem unobservableContentsChangeNoResult : Obligations.UnobservableContentsChangeNoResult := by
  unfold Obligations.UnobservableContentsChangeNoResult
  have hrelated : Related = SameButUnobservable := funext₂ fun s t => propext (related_iff s t)
  rw [← hrelated]
  refine ⟨fun s t h => step_related h, fun cfg i j r p hclut hbuf32 hbuf64 hlc0 hlc1 => ?_⟩
  exact ⟨hclut.symm, hbuf32.symm, hbuf64.symm, hlc0.symm, hlc1.symm, rfl, nofun, rfl, nofun, rfl, nofun, rfl, rfl, rfl,
    rfl, rfl, rfl, rfl⟩

end Sys2Proof.Proofs.Observability
